-- ==== Sys2Proof/Word.lean ====
section
/-! DEFINITION. The bit vectors the manual computes with, and fixed-size tables. -/

namespace Sys2Proof

abbrev Byte := BitVec 8
/-- A 32-bit byte address of the M-link. -/
abbrev Addr := BitVec 32
/-- A value of Time, or a number of ticks modulo 2^32 (R24). -/
abbrev Ticks := BitVec 32
/-- A set of rules, bit n for rule n (00 section 3, "Sets"; 12.2). -/
abbrev RuleSet := BitVec 32
abbrev SourceId := BitVec 6
abbrev Tag := BitVec 5
abbrev ClassNo := BitVec 3
abbrev Check16 := BitVec 16

/-- The attribute flags Unordered and Urgent (01 section 1.1). -/
structure Attr where
  u : Bool
  g : Bool
deriving DecidableEq, Repr

/-- Exactly `n` like things, found by their number from 0. -/
structure Table (α : Type) (n : Nat) where
  cells   : List α
  size_eq : cells.length = n
deriving DecidableEq, Repr

namespace Table
variable {α : Type} {n : Nat}

/-- `n` copies of one value. -/
def fill (n : Nat) (x : α) : Table α n := ⟨List.replicate n x, List.length_replicate⟩

/-- The cell numbered `i`; `d` where there is none. -/
def get (t : Table α n) (i : Nat) (d : α) : α := t.cells.getD i d

/-- `t` with the cell numbered `i` replaced; `t` itself where there is none. -/
def set (t : Table α n) (i : Nat) (x : α) : Table α n :=
  ⟨t.cells.set i x, by rw [List.length_set]; exact t.size_eq⟩

/-- Every cell changed by a function of its number and value. -/
def mapIdx (t : Table α n) (f : Nat → α → α) : Table α n :=
  ⟨t.cells.mapIdx f, by rw [List.length_mapIdx]; exact t.size_eq⟩

end Table

end Sys2Proof
end

