-- ==== Sys2Proof/Syntax.lean ====
section
/-! DEFINITION. The packets and frames that reach the part from outside, and `Instr`: one command for each row of the opcode table. -/

namespace Sys2Proof

/-- A request packet of the M-link with its header as carried (12.1). `spare` is bits 7–5 of byte 2; `length` is the Length byte,
whatever number of data bytes follows. -/
structure RequestPacket where
  kind    : Byte
  attr    : Attr
  source  : SourceId
  spare   : BitVec 3
  tag     : Tag
  length  : Byte
  address : Addr
  data    : List Byte
  check   : Check16
deriving DecidableEq, Repr

/-- A response packet of the M-link with its header as carried (12.1). -/
structure ResponsePacket where
  status : Byte
  attr   : Attr
  source : SourceId
  spare  : BitVec 3
  tag    : Tag
  length : Byte
  data   : List Byte
  check  : Check16
deriving DecidableEq, Repr

/-- The 27 commands of the Management port (11.10, 12.3). -/
inductive MgmtCommand where
  | status | setMode | lockGuards
  | loadSource | clearSource | readSource
  | loadRule | enableRule | disableRule | clearRule | readRule
  | readCounters | readGlobals
  | setRing | ringStatus
  | setFill | setTimers
  | loadStage | setSequencer | seqStart | seqStop | seqStatus | readSnapshot | clearSnapshot
  | takeEvent | endEvent | setEventEnable
deriving DecidableEq, Repr

/-- An edge on the pins of the Management port (R174). A rising edge of SCK carries the level of SDI at it. -/
inductive PortEdge where
  | selFall
  | selRise
  | sckRise (sdi : Bool)
  | sckFall
deriving DecidableEq, Repr

/-- What ends a management frame: the command check byte the port received, and the edges on the port's pins from that byte's last
sampling edge on, in order, with which the host clocks the answer and ends the frame (R174, R175, R177; log 8). -/
structure FrameTail where
  check : Byte
  after : List PortEdge
deriving DecidableEq, Repr

/-- One pattern term as it travels in LOAD_RULE (12.3). -/
structure PatternTerm where
  offset : Byte
  mask   : Byte
  value  : Byte
deriving DecidableEq, Repr

/-- The 52 parameter bytes of LOAD_RULE, field by field (12.3). -/
structure RuleParams where
  index         : Byte
  base          : Addr
  limit         : Addr
  windowMode    : Byte
  kinds         : Byte
  classes       : Byte
  minLength     : Byte
  actions       : Byte
  depth         : Byte
  termCount     : Byte
  terms         : Table PatternTerm 8
  compare       : Byte
  compareOffset : Byte
  compareWidth  : Byte
  fieldMask     : BitVec 32
  operand       : BitVec 32
  condition     : Byte
deriving DecidableEq, Repr

/-- The 16 parameter bytes of SET_RING, field by field (12.3). -/
structure RingParams where
  base         : Addr
  slots        : BitVec 16
  producerAddr : Addr
  consumerAddr : Addr
  mode         : Byte
  guard        : Byte
deriving DecidableEq, Repr

/-- The two items the Hold unit can hold (R101). -/
inductive HoldSide where
  | request
  | response
deriving DecidableEq, Repr

/-- The three reset inputs: which are named (02 section 2.6). -/
structure ResetInputs where
  /-- PWR_OK -/
  power : Bool
  /-- RST_n -/
  board : Bool
  /-- LRST_n -/
  link  : Bool
deriving DecidableEq, Repr

/-- A step towards the link's coming up: the reset inputs that are deasserted, and the edges on the Management port's pins before that, in
or out of reset, which belong to no row of a frame (R182; logs 6, 8). -/
structure Release where
  before : List PortEdge
  inputs : ResetInputs
deriving DecidableEq, Repr

/-- The commands the part takes, one for each row of the opcode table. A FRAME_ABORT carries the bits sampled before SEL_n rose, and the
edges after that; a BAD_COMMAND carries the edges that follow its command byte (log 8). -/
inductive Instr where
  | requestArrival (p : RequestPacket)
  | responseArrival (p : ResponsePacket)
  | requestAtHead
  | ortEntryCreate
  | refusalQueueAdmit
  | responseAtHead
  | captureQueueAdmit
  | farPortGrant
  | captureWriterStart
  | nearPortResponseGrant
  | farRequestCredit (count : Nat)
  | nearResponseCredit (count : Nat)
  | readTimerExpiry (source : SourceId) (tag : Tag)
  | holdExpiry (side : HoldSide)
  | stageWindowExpiry
  | markPulseEnd
  | timeTick
  | freezeRequest
  | linkReset
  | boardReset
  | powerOn
  | linkUp (release : Release)
  | frameAbort (bits : List Bool) (after : List PortEdge)
  | badCommand (code : Byte) (after : List PortEdge)
  | status (tail : FrameTail)
  | setMode (mode : Byte) (tail : FrameTail)
  | lockGuards (tail : FrameTail)
  | loadSource (index sourceId cls flags : Byte) (tail : FrameTail)
  | clearSource (index : Byte) (tail : FrameTail)
  | readSource (index clear : Byte) (tail : FrameTail)
  | loadRule (params : RuleParams) (tail : FrameTail)
  | enableRule (index : Byte) (tail : FrameTail)
  | disableRule (index : Byte) (tail : FrameTail)
  | clearRule (index : Byte) (tail : FrameTail)
  | readRule (index : Byte) (tail : FrameTail)
  | readCounters (index : Byte) (tail : FrameTail)
  | readGlobals (tail : FrameTail)
  | setRing (params : RingParams) (tail : FrameTail)
  | ringStatus (tail : FrameTail)
  | setFill (bytes : Table Byte 16) (tail : FrameTail)
  | setTimers (readTimeout holdLimit : BitVec 16) (monitorSource : Byte) (tail : FrameTail)
  | loadStage (index : Byte) (rules : RuleSet) (count : BitVec 16) (window : BitVec 32) (onExpiry : Byte) (tail : FrameTail)
  | setSequencer (stagesInUse : Byte) (abortRules : RuleSet) (postCount : BitVec 16) (fireActions : Byte) (tail : FrameTail)
  | seqStart (tail : FrameTail)
  | seqStop (tail : FrameTail)
  | seqStatus (tail : FrameTail)
  | readSnapshot (tail : FrameTail)
  | clearSnapshot (tail : FrameTail)
  | takeEvent (tail : FrameTail)
  | endEvent (tail : FrameTail)
  | setEventEnable (level0 level1 level2 level3 globalEnable : Byte) (tail : FrameTail)
deriving DecidableEq, Repr

end Sys2Proof
end

