-- ==== Sys2Proof/Config.lean ====
section
/-! DEFINITION. What this part fixes: sizes, limits and the version byte. The spec leaves no result of a command open, so there is no free
value here (INVENTORY.md, "State"). -/

namespace Sys2Proof.Config

/-- Entries of the Request Buffer (R5). -/
abbrev requestBufferSize : Nat := 8
/-- Entries of the Response Buffer (R8). -/
abbrev responseBufferSize : Nat := 8
/-- Entries of the Refusal Queue (R97). -/
abbrev refusalQueueSize : Nat := 4
/-- Records of the Capture Queue (R134). -/
abbrev captureQueueSize : Nat := 4
/-- Entries of the Outstanding Read Table (R77). -/
abbrev ortSize : Nat := 32
/-- The largest count of credits the part holds on either port (R6, R7). -/
abbrev creditLimit : Nat := 16
/-- Bytes of a slot of the capture ring (R122). -/
abbrev slotBytes : Nat := 128
/-- The STATUS version byte (R181). -/
abbrev version : Byte := 0x01

end Sys2Proof.Config
end

