-- ==== Sys2Proof/Machine/State.lean ====
section
/-! DEFINITION. Everything the spec gives the part to hold, block by block (00 section 1.2), and the part right after reset. -/

namespace Sys2Proof.Machine

/-! ## Requests and responses in the buffers -/

/-- How a request is classified on arrival (R1). -/
inductive Classification where
  | damaged
  | malformed
  | wellFormed
deriving DecidableEq, Repr

/-- An entry of the Request Buffer: the packet as it arrived, with the classification that travels with it (R1). -/
structure BufferedRequest where
  packet : RequestPacket
  cls    : Classification
deriving DecidableEq, Repr

/-- An entry of the Response Buffer: the packet as it arrived, and whether it is damaged (R2). -/
structure BufferedResponse where
  packet  : ResponsePacket
  damaged : Bool
deriving DecidableEq, Repr

inductive Kind where
  | rd
  | wr
deriving DecidableEq, Repr

/-! ## Capture records (R130) -/

/-- The record outcome (R64, R130). -/
inductive RecordOutcome where
  | forwarded
  | refusedEarly
  | refusedLate
  | memoryFault
  | responseDamaged
  | expired
deriving DecidableEq, Repr

/-- A capture record: the fields of R130. -/
structure Record where
  seq       : BitVec 32
  time      : Ticks
  source    : SourceId
  tag       : Tag
  cls       : ClassNo
  kind      : Kind
  attr      : Attr
  address   : Addr
  length    : Byte
  outcome   : RecordOutcome
  matchSet  : RuleSet
  fire      : Bool
  post      : Bool
  held      : Bool
  latency   : BitVec 16
  heldTicks : BitVec 16
  dataCount : Byte
  data      : List Byte
deriving DecidableEq, Repr

/-- What the Hold unit keeps for a held item besides the transaction itself (R101). -/
structure Hold where
  record : Record
  start  : Ticks
  limit  : BitVec 16
deriving DecidableEq, Repr

/-! ## The head of the Request Buffer -/

/-- A request that has completed its path to step 7 of R10, offered to the Far-port arbiter. `packet` is what will be sent. `counted`
says that it reached the head in ACTIVE or FROZEN (R112). `tracked` says that an ORT entry was created for it (R79). -/
structure Forwarding where
  packet  : RequestPacket
  counted : Bool
  tracked : Bool
deriving DecidableEq, Repr

/-- What the head request does once its capture step is over, as its resolution decided (R93, R94, R103). -/
inductive AfterCapture where
  | forward (f : Forwarding)
  /-- A refused write is dropped (R93). -/
  | drop
  /-- The response made for an early-refused read goes to the Refusal Queue (R94). -/
  | refuse (response : ResponsePacket)
deriving DecidableEq, Repr

/-- A read at step 5 that has no ORT entry yet, with all it carries (R60, R80). `bypassed` says that the mode entered BYPASS while it
waited (R26, R79). -/
structure WaitingRead where
  packet   : RequestPacket
  cls      : ClassNo
  pendingRules : RuleSet
  noData   : RuleSet
  bypassed : Bool
deriving DecidableEq, Repr

/-- Where the request at the head of the Request Buffer stands on the request path (R10). -/
inductive RequestHead where
  /-- Not handled yet, or the buffer is empty. -/
  | fresh
  /-- Step 5: the read has no ORT entry yet (R80). -/
  | waitOrt (w : WaitingRead)
  /-- Step 6, held for want of a slot (R101). -/
  | held (h : Hold) (next : AfterCapture)
  /-- Step 6, with a slot reserved, waiting for room in the Capture Queue (R107). -/
  | waitRoom (r : Record) (next : AfterCapture)
  /-- Waiting to enter the Refusal Queue (R12, R94); `counts` says that leaving counts in Refused (R113). -/
  | waitRefusal (response : ResponsePacket) (counts : Bool)
  /-- Step 7: offered to the Far-port arbiter. -/
  | ready (f : Forwarding)
deriving DecidableEq, Repr

/-- Where the response at the head of the Response Buffer stands on the response path; each carries the response to be delivered. -/
inductive ResponseHead where
  /-- Not handled yet, or the buffer is empty. -/
  | fresh
  | held (h : Hold) (response : ResponsePacket)
  | waitRoom (r : Record) (response : ResponsePacket)
  /-- Offered to the Near-port response arbiter. -/
  | ready (response : ResponsePacket)
deriving DecidableEq, Repr

/-! ## Ports -/

/-- The two contenders of the Near-port response arbiter (R18). -/
inductive NearContender where
  | memory
  | refusalQueue
deriving DecidableEq, Repr

/-- The two contenders of the Far-port arbiter (R17). -/
inductive FarContender where
  | request
  | writer
deriving DecidableEq, Repr

structure NearPort where
  /-- The Request Buffer, head first (R1, R5). -/
  buffer     : List BufferedRequest
  head       : RequestHead
  /-- Request credits granted to the near side and not spent by an arrival (R5; log 20). -/
  granted    : Nat
  /-- Response credits held (R6). -/
  credits    : Nat
  /-- The Refusal Queue, head first (R97). -/
  refusals   : List ResponsePacket
  lastWinner : NearContender
  /-- Every response sent on the Near port, in order: the model's own record of the output (log 9). -/
  sent       : List ResponsePacket
deriving DecidableEq, Repr

structure FarPort where
  /-- The Response Buffer, head first (R2, R8). -/
  buffer     : List BufferedResponse
  head       : ResponseHead
  /-- Response credits granted to the far side and not spent by an arrival (R8; log 20). -/
  granted    : Nat
  /-- Request credits held (R7). -/
  credits    : Nat
  lastWinner : FarContender
  /-- Every packet sent on the Far port, in order: the model's own record of the output (log 9). -/
  sent       : List RequestPacket
deriving DecidableEq, Repr

/-! ## Mode control -/

inductive Mode where
  | bypass
  | active
  | frozen
deriving DecidableEq, Repr

structure ModeControl where
  mode           : Mode
  guardLock      : Bool
  /-- Freeze requests sent by the sequencer and not yet taken (R29, R160; log 15). -/
  freezeRequests : Nat
deriving DecidableEq, Repr

/-! ## Source Table (R33) -/

/-- An entry; EMPTY while `valid` is false. -/
structure SourceEntry where
  valid        : Bool
  sourceId     : SourceId
  cls          : ClassNo
  forceOrdered : Bool
  demote       : Bool
  damaged      : Byte
deriving DecidableEq, Repr

def SourceEntry.empty : SourceEntry := ⟨false, 0, 0, false, false, 0⟩

/-! ## Rule Table (R47) -/

inductive RuleState where
  | empty
  | disabled
  | enabled
deriving DecidableEq, Repr

inductive WindowMode where
  | overlap
  | inside
deriving DecidableEq, Repr

inductive Depth where
  | headerOnly
  | withData
deriving DecidableEq, Repr

/-- The ten Conditions of R56. -/
inductive Condition where
  | eq | ne | ult | uge | ugt | ule | lt | ge | gt | le
deriving DecidableEq, Repr

/-- A Compare. `present` is the present byte as loaded, any value but 0x00 (12.3; log 13). -/
structure Compare where
  present   : Byte
  offset    : Byte
  width     : Byte
  fieldMask : BitVec 32
  operand   : BitVec 32
  condition : Condition
deriving DecidableEq, Repr

structure Actions where
  capture : Bool
  block   : Bool
  signal  : Bool
deriving DecidableEq, Repr

structure RuleDef where
  base       : Addr
  limit      : Addr
  windowMode : WindowMode
  kindRd     : Bool
  kindWr     : Bool
  /-- Bit n for class n. -/
  classes    : BitVec 8
  minLength  : Byte
  pattern    : List PatternTerm
  compare    : Option Compare
  actions    : Actions
  depth      : Depth
deriving DecidableEq, Repr

/-- The values of an EMPTY rule (R47). -/
def RuleDef.empty : RuleDef :=
  { base := 0, limit := 0, windowMode := .overlap, kindRd := false, kindWr := false, classes := 0, minLength := 0, pattern := [],
    compare := none, actions := ⟨false, false, false⟩, depth := .headerOnly }

structure Rule where
  state    : RuleState
  defn     : RuleDef
  /-- R49. -/
  useCount : Nat
deriving DecidableEq, Repr

def Rule.empty : Rule := ⟨.empty, RuleDef.empty, 0⟩

/-! ## Outstanding Read Table (R77, R78) -/

/-- The phase of an entry; an entry in EXPIRED carries the record that waits for room (R86). -/
inductive Phase where
  | created
  | timing
  | answered
  | expired (r : Record)
deriving DecidableEq, Repr

structure OrtEntry where
  source       : SourceId
  tag          : Tag
  address      : Addr
  length       : Byte
  cls          : ClassNo
  attr         : Attr
  pendingRules : RuleSet
  noData       : RuleSet
  orphaned     : Bool
  phase        : Phase
  requestTime  : Option Ticks
  limit        : Option (BitVec 16)
  arrivalTime  : Option Ticks
  /-- The recorded arrival came while the entry was CREATED, so the Latency is 0 (R84; log 23). -/
  earlyArrival : Bool
deriving DecidableEq, Repr

/-! ## Timers (R92) -/

structure Timers where
  readTimeout   : BitVec 16
  holdLimit     : BitVec 16
  monitorSource : SourceId
deriving DecidableEq, Repr

/-! ## Counter bank -/

/-- The six counters of a rule (R108). -/
structure RuleCounters where
  bin1to4   : BitVec 32
  bin5to8   : BitVec 32
  bin9to16  : BitVec 32
  bin17to32 : BitVec 32
  bin33to64 : BitVec 32
  blocked   : BitVec 32
deriving DecidableEq, Repr

def RuleCounters.zero : RuleCounters := ⟨0, 0, 0, 0, 0, 0⟩

/-- The twelve global counters (R111). -/
structure Globals where
  forwardedRequests : BitVec 32
  forwardedReads    : BitVec 32
  forwardedWrites   : BitVec 32
  refused           : BitVec 32
  damaged           : BitVec 32
  malformed         : BitVec 32
  duplicateTag      : BitVec 32
  strayResponses    : BitVec 32
  readExpiries      : BitVec 32
  intrusions        : BitVec 32
  holdExpiries      : BitVec 32
  consumerInvalid   : BitVec 32
deriving DecidableEq, Repr

def Globals.zero : Globals := ⟨0, 0, 0, 0, 0, 0, 0, 0, 0, 0, 0, 0⟩

structure CounterBank where
  perRule : Table RuleCounters 32
  globals : Globals
deriving DecidableEq, Repr

/-! ## Capture Ring controller -/

inductive RingMode where
  | lossless
  | lossy
deriving DecidableEq, Repr

inductive ConfigState where
  | invalid
  | pending
  | valid
deriving DecidableEq, Repr

/-- The ring configuration (R122). -/
structure RingConfig where
  base         : Addr
  slots        : Nat
  producerAddr : Addr
  consumerAddr : Addr
  mode         : RingMode
  guard        : Bool
  state        : ConfigState
deriving DecidableEq, Repr

/-- A record of the Capture Queue with the slot it is placed in (R128, R134). -/
structure QueuedRecord where
  record : Record
  slot   : Nat
deriving DecidableEq, Repr

/-- The Capture Writer with the packet it presents (R135); `forRing` says that the Producer Word write is SET_RING's (R124). -/
inductive Writer where
  | idle
  | first (packet : RequestPacket)
  | second (packet : RequestPacket)
  | producer (packet : RequestPacket) (forRing : Bool)
deriving DecidableEq, Repr

structure RingController where
  config      : RingConfig
  p           : BitVec 16
  c           : BitVec 16
  seq         : BitVec 32
  overrun     : Bool
  overrunSeen : Bool
  /-- Ring Loss (R116). -/
  loss        : BitVec 32
  /-- The Capture Queue, head first (R134). -/
  queue       : List QueuedRecord
  writer      : Writer
deriving DecidableEq, Repr

/-! ## Trigger Sequencer -/

inductive OnExpiry where
  | restart
  | stop
deriving DecidableEq, Repr

/-- A stage record (R146). -/
structure StageRecord where
  rules    : RuleSet
  count    : BitVec 16
  window   : BitVec 32
  onExpiry : OnExpiry
deriving DecidableEq, Repr

/-- A cleared stage record (R146). -/
def StageRecord.cleared : StageRecord := ⟨0, 1, 0, .restart⟩

/-- The global settings (R147). -/
structure SeqSettings where
  stagesInUse : Nat
  abortRules  : RuleSet
  postCount   : Nat
  freeze      : Bool
  mark        : Bool
deriving DecidableEq, Repr

/-- The sequencer's state with the values that belong to it (R150). -/
inductive SeqState where
  | off
  | run (stage : Nat) (progress : Nat) (windowStart : Option Ticks)
  | post (remaining : Nat)
  | fired
deriving DecidableEq, Repr

/-- A Fire Snapshot that is Valid (R161): the Reset Count at the firing and the firing record, its data cut or filled with zero
bytes to 32. -/
structure Snapshot where
  resetCount : Byte
  record     : Record
deriving DecidableEq, Repr

structure Sequencer where
  stages      : Table StageRecord 4
  settings    : SeqSettings
  state       : SeqState
  /-- The Time of the latest firing that drove MARK, while MARK is high (R159). -/
  markFiredAt : Option Ticks
  /-- The Fire Snapshot; none while it is empty (R161). -/
  snapshot    : Option Snapshot
deriving DecidableEq, Repr

/-! ## Event Controller -/

/-- The eleven sources in source order (R165). -/
inductive EventSource where
  | fire | protocol | damaged | ringLoss | overrun | consumerInvalid | ringIntrusion | holdExpired | readExpired | stray
  | ruleSignal
deriving DecidableEq, Repr

/-- Pending flag and Occurrence count (R166). -/
structure EventRecord where
  pending : Bool
  count   : Byte
deriving DecidableEq, Repr

structure EventController where
  /-- One record for each source, in source order. -/
  records      : Table EventRecord 11
  /-- The rule set of RULE_SIGNAL. -/
  signalRules  : RuleSet
  /-- Bit n for level n. -/
  levelEnable  : BitVec 4
  globalEnable : Bool
  /-- Bit n for level n. -/
  inService    : BitVec 4
deriving DecidableEq, Repr

/-! ## Management port -/

/-- The long-command slot (R180). -/
inductive LongSlot where
  | idle
  | pending
  | doneOk
  | doneAborted
deriving DecidableEq, Repr

inductive ResetKind where
  | power
  | board
  | link
deriving DecidableEq, Repr

/-- The frame in progress at the Management port (R174, R175, R178). -/
inductive FrameProgress where
  /-- No frame: SEL_n is high, or it is low and the port waits for it to rise and fall again (R182). -/
  | absent
  /-- The command is being received; these bits have been sampled, the first one first. -/
  | receiving (bits : List Bool)
  /-- SDI is ignored. These bits are driven on SDO, one after each falling edge of SCK, and after them the fill byte over and over. -/
  | sending (out : List Bool) (fill : Byte)
deriving DecidableEq, Repr

/-- The pins of the Management port and the frame on them (R174). -/
structure SerialLink where
  /-- SEL_n is low. -/
  selLow  : Bool
  /-- SCK is high. -/
  sckHigh : Bool
  frame   : FrameProgress
  /-- The level driven on SDO; none while SDO is high impedance. -/
  sdo     : Option Bool
  /-- The bits the host has sampled on SDO in this frame: the model's own record of the output (log 9). -/
  read    : List Bool
deriving DecidableEq, Repr

/-- The pins at rest: SEL_n high, SCK low, SDO high impedance. -/
def SerialLink.idle : SerialLink := ⟨false, false, .absent, none, []⟩

structure MgmtPort where
  slot             : LongSlot
  frameFault       : Byte
  lastFrameAborted : Bool
  lastReset        : ResetKind
  resetCount       : Byte
  link             : SerialLink
  /-- The bits the host sampled on SDO in each frame that has ended, frame by frame: the model's own record of the output (log 9). -/
  sdo              : List (List Bool)
deriving DecidableEq, Repr

/-! ## The part -/

structure State where
  /-- The reset inputs that are asserted (R32). -/
  pins     : ResetInputs
  /-- The link is up; FRST_n is asserted exactly while it is not (R19, R20). -/
  linkUp   : Bool
  near     : NearPort
  far      : FarPort
  ctrl     : ModeControl
  /-- R24. -/
  time     : Ticks
  sources  : Table SourceEntry 16
  rules    : Table Rule 32
  /-- The ORT. Its entries have no order among themselves (R77). -/
  ort      : List OrtEntry
  timers   : Timers
  /-- The Fill Pattern (R95). -/
  fill     : Table Byte 16
  counters : CounterBank
  ring     : RingController
  seqr     : Sequencer
  events   : EventController
  port     : MgmtPort
  /-- The commands that wait, first in first out (log 1). -/
  pending  : List Instr
deriving DecidableEq, Repr

/-- What stops the part: nothing the spec describes does, so no command of the model faults. -/
inductive Fault where
deriving DecidableEq, Repr

/-- Why a command is turned away without a next state. -/
inductive Refusal where
  /-- A command without a meaning yet; raised only by an arm of the dispatch. Safe: nothing can be proved of a next state. -/
  | notModelled (mnemonic : String)
  /-- The operands describe no frame of the command: a FRAME_ABORT that received its check byte, a BAD_COMMAND with a known code;
  raised by those two meanings (log 19). Safe: no such frame exists. -/
  | illFormed
deriving DecidableEq, Repr

/-! ## Reset values -/

namespace State

/-- The Request Buffer side after every reset, with `granted` credits granted (01, "Link-side state after each reset"; R97, R101). -/
def clearedNear (granted : Nat) (sent : List ResponsePacket) : NearPort :=
  { buffer := [], head := .fresh, granted := granted, credits := 0, refusals := [], lastWinner := .refusalQueue, sent := sent }

/-- The Response Buffer side after every reset. -/
def clearedFar (granted : Nat) (sent : List RequestPacket) : FarPort :=
  { buffer := [], head := .fresh, granted := granted, credits := 0, lastWinner := .writer, sent := sent }

/-- The ring after power-on and board reset (R122, R145). -/
def clearedRing : RingController :=
  { config := { base := 0, slots := 0, producerAddr := 0, consumerAddr := 0, mode := .lossless, guard := false, state := .invalid },
    p := 0, c := 0, seq := 0, overrun := false, overrunSeen := false, loss := 0, queue := [], writer := .idle }

/-- The sequencer after power-on and board reset (R146, R147, R150, R159), with the Fire Snapshot given (R164). -/
def clearedSequencer (snapshot : Option Snapshot) : Sequencer :=
  { stages := Table.fill 4 StageRecord.cleared,
    settings := { stagesInUse := 1, abortRules := 0, postCount := 0, freeze := false, mark := false },
    state := .off, markFiredAt := none, snapshot := snapshot }

/-- The Event Controller after power-on and board reset (R173). -/
def clearedEvents : EventController :=
  { records := Table.fill 11 ⟨false, 0⟩, signalRules := 0, levelEnable := 0, globalEnable := false, inService := 0 }

/-- The part right after power-on reset: PWR_OK is high, every reset input is deasserted and the link has come up (R20, R21; log 2).
DESIGN CHOICE (log 2): of the moments "after reset", this one. Unsafe, and only in what is said of State.reset itself. -/
def reset : State :=
  { pins := ⟨false, false, false⟩
    linkUp := true
    near := clearedNear Config.requestBufferSize []
    far := clearedFar Config.responseBufferSize []
    ctrl := { mode := .bypass, guardLock := false, freezeRequests := 0 }
    time := 0
    sources := Table.fill 16 SourceEntry.empty
    rules := Table.fill 32 Rule.empty
    ort := []
    timers := { readTimeout := 1000, holdLimit := 100, monitorSource := 63 }
    fill := Table.fill 16 0
    counters := { perRule := Table.fill 32 RuleCounters.zero, globals := Globals.zero }
    ring := clearedRing
    seqr := clearedSequencer none
    events := clearedEvents
    port := { slot := .idle, frameFault := 0, lastFrameAborted := false, lastReset := .power, resetCount := 0, link := SerialLink.idle,
              sdo := [] }
    pending := [] }

end State

end Sys2Proof.Machine
end

