-- ==== Sys2Proof/Machine/Flags.lean ====
section
/-! DEFINITION. The flags of a Compare and the ten Conditions on them (R55, R56). -/

namespace Sys2Proof.Machine

/-- The flags of R55. -/
structure CompareFlags where
  z : Bool
  c : Bool
  s : Bool
  v : Bool
deriving DecidableEq, Repr

/-- Steps 4 to 8 of R55: the flags of the subtraction F − K. -/
def subFlags {n : Nat} (f k : BitVec n) : CompareFlags :=
  let d := f - k
  { z := d == 0#n
    c := f.ult k
    s := d.msb
    v := f.msb != k.msb && d.msb != f.msb }

/-- R56. -/
def conditionHolds (cond : Condition) (x : CompareFlags) : Bool :=
  match cond with
  | .eq => x.z
  | .ne => !x.z
  | .ult => x.c
  | .uge => !x.c
  | .ugt => !x.c && !x.z
  | .ule => x.c || x.z
  | .lt => x.s ^^ x.v
  | .ge => !(x.s ^^ x.v)
  | .gt => !x.z && !(x.s ^^ x.v)
  | .le => x.z || (x.s ^^ x.v)

end Sys2Proof.Machine
end

