-- ==== Sys2Proof/Machine/Formats.lean ====
section
/-! DEFINITION. Byte orders, the two CRCs, the packet layouts and the frame layouts of the Management port (01 section 1.2, 11, 12). -/

namespace Sys2Proof.Machine

/-! ## Byte orders (00 section 3, R174) -/

/-- Little-endian bytes of a 16-bit quantity. -/
def le16 (x : BitVec 16) : List Byte := [x.extractLsb' 0 8, x.extractLsb' 8 8]
/-- Little-endian bytes of a 32-bit quantity. -/
def le32 (x : BitVec 32) : List Byte :=
  [x.extractLsb' 0 8, x.extractLsb' 8 8, x.extractLsb' 16 8, x.extractLsb' 24 8]
/-- Most significant byte first, 16 bits. -/
def be16 (x : BitVec 16) : List Byte := [x.extractLsb' 8 8, x.extractLsb' 0 8]
/-- Most significant byte first, 32 bits. -/
def be32 (x : BitVec 32) : List Byte :=
  [x.extractLsb' 24 8, x.extractLsb' 16 8, x.extractLsb' 8 8, x.extractLsb' 0 8]

/-- The number that little-endian bytes spell. -/
def leNat : List Byte → Nat
  | [] => 0
  | b :: bs => b.toNat + 256 * leNat bs

/-- 0x00 clear or off, 0x01 set or on (12.3). -/
def flagByte (b : Bool) : Byte := if b then 0x01 else 0x00

/-- The flag a byte codes, where it codes one (12.3, R185). -/
def flagOf (b : Byte) : Option Bool :=
  if b = 0x00 then some false else if b = 0x01 then some true else none

/-! ## CRCs -/

/-- One bit of the CRC-16: shift left, and subtract the generator polynomial when a one leaves (R3). -/
def crc16Bit (c : Check16) : Check16 := if c.msb then (c <<< 1) ^^^ 0x1021 else c <<< 1

/-- One byte of the CRC-16, most significant bit first (R3). -/
def crc16Byte (c : Check16) (b : Byte) : Check16 :=
  let c := c ^^^ (b.setWidth 16 <<< 8)
  crc16Bit (crc16Bit (crc16Bit (crc16Bit (crc16Bit (crc16Bit (crc16Bit (crc16Bit c)))))))

/-- R3: x^16 + x^12 + x^5 + 1, initial value 0xFFFF, neither reflected nor inverted. -/
def crc16 (bytes : List Byte) : Check16 := bytes.foldl crc16Byte 0xFFFF

def crc8Bit (c : Byte) : Byte := if c.msb then (c <<< 1) ^^^ 0x07 else c <<< 1

def crc8Byte (c b : Byte) : Byte :=
  let c := c ^^^ b
  crc8Bit (crc8Bit (crc8Bit (crc8Bit (crc8Bit (crc8Bit (crc8Bit (crc8Bit c)))))))

/-- R176: x^8 + x^2 + x + 1, initial value 0, neither reflected nor inverted. -/
def crc8 (bytes : List Byte) : Byte := bytes.foldl crc8Byte 0x00

/-! ## Packets (12.1, R183) -/

def kindRd : Byte := 0x01
def kindWr : Byte := 0x02
def statusOk : Byte := 0x01
def statusFault : Byte := 0x02
def statusRefused : Byte := 0x03

/-- Byte 1 of a header: bit 7 U, bit 6 G, bits 5–0 Source. -/
def attrSourceByte (a : Attr) (src : SourceId) : Byte :=
  BitVec.ofBool a.u ++ BitVec.ofBool a.g ++ src

/-- Byte 2 of a header: bits 7–5 spare, bits 4–0 Tag. -/
def tagByte (spare : BitVec 3) (tag : Tag) : Byte := spare ++ tag

def reqHeader (p : RequestPacket) : List Byte :=
  [p.kind, attrSourceByte p.attr p.source, tagByte p.spare p.tag, p.length] ++ le32 p.address

def rspHeader (p : ResponsePacket) : List Byte :=
  [p.status, attrSourceByte p.attr p.source, tagByte p.spare p.tag, p.length]

/-- The check computed over a request's contents (R3, R183). -/
def reqCheck (p : RequestPacket) : Check16 := crc16 (reqHeader p ++ p.data)

/-- The check computed over a response's contents (R3, R183). -/
def rspCheck (p : ResponsePacket) : Check16 := crc16 (rspHeader p ++ p.data)

def reqGoodCheck (p : RequestPacket) : Bool := p.check == reqCheck p
def rspGoodCheck (p : ResponsePacket) : Bool := p.check == rspCheck p

/-- `p` with the check computed over its contents. -/
def reqSealed (p : RequestPacket) : RequestPacket := { p with check := reqCheck p }
def rspSealed (p : ResponsePacket) : ResponsePacket := { p with check := rspCheck p }

/-- The whole packet as it stands on the link, check low byte first. -/
def reqBytes (p : RequestPacket) : List Byte := reqHeader p ++ p.data ++ le16 p.check
def rspBytes (p : ResponsePacket) : List Byte := rspHeader p ++ p.data ++ le16 p.check

/-- The 32-bit number four little-endian bytes spell. -/
def ofLe32 (b0 b1 b2 b3 : Byte) : BitVec 32 := b3 ++ b2 ++ b1 ++ b0
def ofLe16 (b0 b1 : Byte) : BitVec 16 := b1 ++ b0

/-- R183: the fields of a request, read at the positions of the table from the packet's bytes; none where the bytes do not hold a
header and a check (log 11). -/
def reqOfBytes (bytes : List Byte) : Option RequestPacket :=
  match bytes with
  | k :: as :: st :: len :: a0 :: a1 :: a2 :: a3 :: rest =>
    match rest.reverse with
    | hi :: lo :: dataRev =>
      some { kind := k, attr := ⟨as.getLsbD 7, as.getLsbD 6⟩, source := as.extractLsb' 0 6, spare := st.extractLsb' 5 3,
             tag := st.extractLsb' 0 5, length := len, address := ofLe32 a0 a1 a2 a3, data := dataRev.reverse,
             check := ofLe16 lo hi }
    | _ => none
  | _ => none

/-- R183: the fields of a response, read at the positions of the table. -/
def rspOfBytes (bytes : List Byte) : Option ResponsePacket :=
  match bytes with
  | st :: as :: tg :: len :: rest =>
    match rest.reverse with
    | hi :: lo :: dataRev =>
      some { status := st, attr := ⟨as.getLsbD 7, as.getLsbD 6⟩, source := as.extractLsb' 0 6, spare := tg.extractLsb' 5 3,
             tag := tg.extractLsb' 0 5, length := len, data := dataRev.reverse, check := ofLe16 lo hi }
    | _ => none
  | _ => none

/-! ## Management frames (12.3) -/

/-- The command code (12.3). -/
def codeOf : MgmtCommand → Byte
  | .status => 0x01 | .setMode => 0x02 | .lockGuards => 0x03
  | .loadSource => 0x10 | .clearSource => 0x11 | .readSource => 0x12
  | .loadRule => 0x20 | .enableRule => 0x21 | .disableRule => 0x22 | .clearRule => 0x23 | .readRule => 0x24
  | .readCounters => 0x30 | .readGlobals => 0x31
  | .setRing => 0x40 | .ringStatus => 0x41
  | .setFill => 0x50 | .setTimers => 0x51
  | .loadStage => 0x60 | .setSequencer => 0x61 | .seqStart => 0x62 | .seqStop => 0x63 | .seqStatus => 0x64
  | .readSnapshot => 0x65 | .clearSnapshot => 0x66
  | .takeEvent => 0x70 | .endEvent => 0x71 | .setEventEnable => 0x72

/-- The fixed number of parameter bytes (12.3). -/
def paramCount : MgmtCommand → Nat
  | .status => 0 | .setMode => 1 | .lockGuards => 0
  | .loadSource => 4 | .clearSource => 1 | .readSource => 2
  | .loadRule => 52 | .enableRule => 1 | .disableRule => 1 | .clearRule => 1 | .readRule => 1
  | .readCounters => 1 | .readGlobals => 0
  | .setRing => 16 | .ringStatus => 0
  | .setFill => 16 | .setTimers => 5
  | .loadStage => 12 | .setSequencer => 8 | .seqStart => 0 | .seqStop => 0 | .seqStatus => 0
  | .readSnapshot => 0 | .clearSnapshot => 0
  | .takeEvent => 0 | .endEvent => 0 | .setEventEnable => 5

/-- The fixed number of response bytes (12.3). -/
def responseCount : MgmtCommand → Nat
  | .status => 12 | .setMode => 0 | .lockGuards => 0
  | .loadSource => 0 | .clearSource => 0 | .readSource => 5
  | .loadRule => 0 | .enableRule => 0 | .disableRule => 0 | .clearRule => 0 | .readRule => 53
  | .readCounters => 24 | .readGlobals => 52
  | .setRing => 0 | .ringStatus => 16
  | .setFill => 0 | .setTimers => 0
  | .loadStage => 0 | .setSequencer => 0 | .seqStart => 0 | .seqStop => 0 | .seqStatus => 5
  | .readSnapshot => 63 | .clearSnapshot => 0
  | .takeEvent => 7 | .endEvent => 1 | .setEventEnable => 0

/-- The 27 commands in the order of 12.3. -/
def allCommands : List MgmtCommand :=
  [.status, .setMode, .lockGuards, .loadSource, .clearSource, .readSource, .loadRule, .enableRule, .disableRule, .clearRule,
   .readRule, .readCounters, .readGlobals, .setRing, .ringStatus, .setFill, .setTimers, .loadStage, .setSequencer, .seqStart,
   .seqStop, .seqStatus, .readSnapshot, .clearSnapshot, .takeEvent, .endEvent, .setEventEnable]

/-- Whether a command byte names one of the 27 commands (R178). -/
def knownCode (code : Byte) : Bool := allCommands.any fun c => codeOf c == code

def termBytes (t : PatternTerm) : List Byte := [t.offset, t.mask, t.value]

/-- The LOAD_RULE parameter bytes (12.3). -/
def ruleParamBytes (p : RuleParams) : List Byte :=
  [p.index] ++ be32 p.base ++ be32 p.limit ++
  [p.windowMode, p.kinds, p.classes, p.minLength, p.actions, p.depth, p.termCount] ++
  p.terms.cells.flatMap termBytes ++
  [p.compare, p.compareOffset, p.compareWidth] ++ be32 p.fieldMask ++ be32 p.operand ++ [p.condition]

/-- The SET_RING parameter bytes (12.3). -/
def ringParamBytes (p : RingParams) : List Byte :=
  be32 p.base ++ be16 p.slots ++ be32 p.producerAddr ++ be32 p.consumerAddr ++ [p.mode, p.guard]

/-- Every result that a frame's result byte or the long-command slot can hold (11.9). -/
inductive ResultCode where
  | ok | pending | busy | badCommand | badParam | badCheck | ruleBusy | notDisabled | emptyRule | locked | wrongMode | noRing
  | duplicateSource | aborted | noEvent | noneInService
deriving DecidableEq, Repr

/-- The result byte (12.3). `noEvent` is the result the manual calls NONE. -/
def resultByte : ResultCode → Byte
  | .ok => 0x00 | .pending => 0x01 | .busy => 0x02 | .badCommand => 0x03 | .badParam => 0x04 | .badCheck => 0x05
  | .ruleBusy => 0x06 | .notDisabled => 0x07 | .emptyRule => 0x08 | .locked => 0x09 | .wrongMode => 0x0A | .noRing => 0x0B
  | .duplicateSource => 0x0C | .aborted => 0x0D | .noEvent => 0x0E | .noneInService => 0x0F

/-- The bytes the port drives from the turnaround byte on: 0x00, the result, the response when the result is OK and zeros
otherwise, and the response check over result and response (R175, R176). -/
def answerBytes (cmd : MgmtCommand) (r : ResultCode) (response : List Byte) : List Byte :=
  let resp := if r = .ok then response else List.replicate (responseCount cmd) 0x00
  [0x00, resultByte r] ++ resp ++ [crc8 (resultByte r :: resp)]

/-! ## Bits of a frame (R174) -/

/-- The bits of a byte as they travel, most significant first. -/
def byteBits (b : Byte) : List Bool :=
  [b.getLsbD 7, b.getLsbD 6, b.getLsbD 5, b.getLsbD 4, b.getLsbD 3, b.getLsbD 2, b.getLsbD 1, b.getLsbD 0]

def bytesBits (bs : List Byte) : List Bool := bs.flatMap byteBits

/-- The byte that eight bits spell, the most significant one first. -/
def byteOfBits (bits : List Bool) : Byte := BitVec.ofNat 8 (bits.foldl (fun n x => 2 * n + x.toNat) 0)

/-- The command that a command byte names, if it names one (R178). -/
def commandOf (code : Byte) : Option MgmtCommand := allCommands.find? fun c => codeOf c == code

/-- The bits the host sends for a command: command byte, parameters, command check (R175). -/
def frameBits (cmd : MgmtCommand) (params : List Byte) (check : Byte) : List Bool := bytesBits (codeOf cmd :: params ++ [check])

/-- What the bits sampled in a frame amount to. -/
inductive Reception where
  /-- Less than a command byte, or less than a known command with its parameters and check byte. -/
  | incomplete
  /-- A known command, its check byte complete. -/
  | whole
  /-- A command byte that names no command (R178). -/
  | unknown
deriving DecidableEq, Repr

/-- R175, R178: the number of bytes of a command is fixed by its code. -/
def reception (bits : List Bool) : Reception :=
  if bits.length < 8 then .incomplete
  else
    match commandOf (byteOfBits (bits.take 8)) with
    | none => .unknown
    | some cmd => if bits.length < 8 * (paramCount cmd + 2) then .incomplete else .whole

end Sys2Proof.Machine
end

