-- ==== Sys2Proof/Machine/Matching.lean ====
section
/-! DEFINITION. Rule sets, address tests and data tests (04 sections 4.2 and 4.3), and the class lookup and attribute rewrite of the
Source Table (03 sections 3.2 and 3.3). -/

namespace Sys2Proof.Machine

/-! ## Rule sets -/

/-- The members below `n` of the set that `p` describes. -/
def ruleSetBelow (p : Nat → Bool) : Nat → RuleSet
  | 0 => 0
  | n + 1 => ruleSetBelow p n ||| (if p n then BitVec.twoPow 32 n else 0)

/-- The rules whose number satisfies `p`. -/
def ruleSetOf (p : Nat → Bool) : RuleSet := ruleSetBelow p 32

/-- The rule set has the rule numbered `i`. -/
def hasRule (m : RuleSet) (i : Nat) : Bool := m.getLsbD i

/-- Two sets intersect when they have at least one member in common (00 section 3). -/
def meets (a b : RuleSet) : Bool := (a &&& b) != 0#32

/-- `a` without the rule numbered `i`. -/
def withoutRule (a : RuleSet) (i : Nat) : RuleSet := a &&& ~~~ BitVec.twoPow 32 i

/-- The rule at an index, EMPTY beyond the table. -/
def ruleAt (s : State) (i : Nat) : Rule := s.rules.get i Rule.empty

/-- The rules that satisfy `p`. -/
def rulesWith (p : Rule → Bool) (s : State) : RuleSet := ruleSetOf fun i => p (ruleAt s i)

def blockRules (s : State) : RuleSet := rulesWith (fun r => r.defn.actions.block) s
def captureRules (s : State) : RuleSet := rulesWith (fun r => r.defn.actions.capture) s
def signalRules (s : State) : RuleSet := rulesWith (fun r => r.defn.actions.signal) s
def withDataRules (s : State) : RuleSet := rulesWith (fun r => r.defn.actions.capture && r.defn.depth == .withData) s

/-! ## Address tests (R50, R51) -/

/-- R51, the bytes from `addr` on, `len` of them. -/
def windowTest (d : RuleDef) (addr len : Nat) : Bool :=
  match d.windowMode with
  | .overlap => addr ≤ d.limit.toNat && d.base.toNat ≤ addr + len - 1
  | .inside => d.base.toNat ≤ addr && addr + len - 1 ≤ d.limit.toNat

def kindTest (d : RuleDef) : Kind → Bool
  | .rd => d.kindRd
  | .wr => d.kindWr

/-- R50. -/
def addressTests (r : Rule) (kind : Kind) (cls : ClassNo) (addr len : Nat) : Bool :=
  r.state == .enabled && kindTest r.defn kind && r.defn.classes.getLsbD cls.toNat && windowTest r.defn addr len &&
    decide (r.defn.minLength.toNat ≤ len)

/-! ## Data tests (R53 to R55) -/

/-- R54 for one term. -/
def termHolds (t : PatternTerm) (data : List Byte) : Bool :=
  match data[t.offset.toNat]? with
  | none => false
  | some b => (b &&& t.mask) == (t.value &&& t.mask)

/-- R54: every term holds. -/
def patternHolds (pattern : List PatternTerm) (data : List Byte) : Bool := pattern.all fun t => termHolds t data

/-- Step 1 of R55: the field, read little-endian. -/
def compareField (c : Compare) (data : List Byte) : BitVec (8 * c.width.toNat) :=
  BitVec.ofNat _ (leNat ((data.drop c.offset.toNat).take c.width.toNat))

/-- Steps 1 to 8 of R55: the Operand is truncated and not masked. -/
def compareFlags (c : Compare) (data : List Byte) : CompareFlags :=
  subFlags (compareField c data &&& c.fieldMask.setWidth _) (c.operand.setWidth _)

/-- R55. -/
def compareHolds (c : Compare) (data : List Byte) : Bool :=
  decide (c.offset.toNat + c.width.toNat ≤ data.length) && conditionHolds c.condition (compareFlags c data)

/-- R53: Pattern and Compare both hold; an absent Compare asks nothing. -/
def dataTests (d : RuleDef) (data : List Byte) : Bool :=
  patternHolds d.pattern data &&
    match d.compare with
    | none => true
    | some c => compareHolds c data

/-- A rule has data tests when its pattern list is not empty or its Compare is present (R53). -/
def hasDataTests (d : RuleDef) : Bool := !d.pattern.isEmpty || d.compare.isSome

/-! ## Sets of a request (R57, R58) -/

/-- The candidate set: the rules whose address tests hold (R58). -/
def candidates (kind : Kind) (cls : ClassNo) (p : RequestPacket) (s : State) : RuleSet :=
  rulesWith (fun r => addressTests r kind cls p.address.toNat p.length.toNat) s

/-- The rules that have data tests. -/
def dataRules (s : State) : RuleSet := rulesWith (fun r => hasDataTests r.defn) s

/-- The rules whose data tests hold on `data`; a rule without data tests is among them. -/
def dataMatches (data : List Byte) (s : State) : RuleSet := rulesWith (fun r => dataTests r.defn data) s

/-- The match set of a write (R57). -/
def writeMatchSet (cls : ClassNo) (p : RequestPacket) (s : State) : RuleSet :=
  candidates .wr cls p s &&& dataMatches p.data s

/-! ## Source Table (R34, R37) -/

/-- The VALID entry that holds a Source ID; at most one does (R41). -/
def lookupSource (src : SourceId) (s : State) : Option SourceEntry :=
  s.sources.cells.find? fun e => e.valid && e.sourceId == src

/-- R34: class 0 where no VALID entry holds the Source ID. -/
def classOf (src : SourceId) (s : State) : ClassNo :=
  match lookupSource src s with
  | some e => e.cls
  | none => 0

/-- R37: the Attr a request carries when it is sent. -/
def rewrittenAttr (src : SourceId) (a : Attr) (s : State) : Attr :=
  match lookupSource src s with
  | some e => ⟨a.u && !e.forceOrdered, a.g && !e.demote⟩
  | none => a

/-- A well-formed request with its Attr rewritten; the check is computed afresh exactly when that changes it (R4, R37). -/
def rewriteRequest (p : RequestPacket) (s : State) : RequestPacket :=
  if rewrittenAttr p.source p.attr s = p.attr then p else reqSealed { p with attr := rewrittenAttr p.source p.attr s }

/-- A response with its Attr restored (R39); the check is set by R4 exactly when that changes it. -/
def restoreAttr (a : Attr) (p : ResponsePacket) : ResponsePacket :=
  if p.attr = a then p
  else { p with attr := a,
                check := if rspGoodCheck p then rspCheck { p with attr := a } else ~~~ rspCheck { p with attr := a } }

end Sys2Proof.Machine
end

