-- ==== Sys2Proof/Machine/Operands.lean ====
section
/-! DEFINITION. Parameters to values and values to response bytes: the enumerated codes and layouts of 12.3, the record layout of 12.2, and
the checks that the owning rules make on decoded values (R69, R123, R148, R149, R171, R185). -/

namespace Sys2Proof.Machine

/-! ## Enumerated codes (12.3) -/

def modeOf (b : Byte) : Option Mode :=
  if b = 0x00 then some .bypass else if b = 0x01 then some .active else if b = 0x02 then some .frozen else none

def modeByte : Mode → Byte
  | .bypass => 0x00 | .active => 0x01 | .frozen => 0x02

def windowModeOf (b : Byte) : Option WindowMode :=
  if b = 0x00 then some .overlap else if b = 0x01 then some .inside else none

def windowModeByte : WindowMode → Byte
  | .overlap => 0x00 | .inside => 0x01

def depthOf (b : Byte) : Option Depth :=
  if b = 0x00 then some .headerOnly else if b = 0x01 then some .withData else none

def depthByte : Depth → Byte
  | .headerOnly => 0x00 | .withData => 0x01

def conditionOf (b : Byte) : Option Condition :=
  if b = 0x00 then some .eq else if b = 0x01 then some .ne else if b = 0x02 then some .ult
  else if b = 0x03 then some .uge else if b = 0x04 then some .ugt else if b = 0x05 then some .ule
  else if b = 0x06 then some .lt else if b = 0x07 then some .ge else if b = 0x08 then some .gt
  else if b = 0x09 then some .le else none

def conditionByte : Condition → Byte
  | .eq => 0x00 | .ne => 0x01 | .ult => 0x02 | .uge => 0x03 | .ugt => 0x04 | .ule => 0x05 | .lt => 0x06 | .ge => 0x07
  | .gt => 0x08 | .le => 0x09

def ringModeOf (b : Byte) : Option RingMode :=
  if b = 0x00 then some .lossless else if b = 0x01 then some .lossy else none

def onExpiryOf (b : Byte) : Option OnExpiry :=
  if b = 0x00 then some .restart else if b = 0x01 then some .stop else none

def slotByte : LongSlot → Byte
  | .idle => 0x00 | .pending => 0x01 | .doneOk => 0x02 | .doneAborted => 0x03

def resetKindByte : ResetKind → Byte
  | .power => 0x00 | .board => 0x01 | .link => 0x02

def configStateByte : ConfigState → Byte
  | .invalid => 0x00 | .pending => 0x01 | .valid => 0x02

def seqStateByte : SeqState → Byte
  | .off => 0x00 | .run _ _ _ => 0x01 | .post _ => 0x02 | .fired => 0x03

def ruleStateByte : RuleState → Byte
  | .empty => 0x00 | .disabled => 0x01 | .enabled => 0x02

/-! ## Rule definitions (R69, R185) -/

/-- The Compare that bytes 40 to 51 give: absent where byte 40 is 0x00, and then the rest is not checked; refused (none) where it is
present and not valid (R69, R185). -/
def compareOf (p : RuleParams) : Option (Option Compare) :=
  if p.compare = 0x00 then some none
  else
    match conditionOf p.condition with
    | none => none
    | some cond =>
      if (p.compareWidth = 1 ∨ p.compareWidth = 2 ∨ p.compareWidth = 4) ∧ p.compareOffset.toNat ≤ 63 ∧
          p.compareOffset.toNat + p.compareWidth.toNat ≤ 64 then
        some (some { present := p.compare, offset := p.compareOffset, width := p.compareWidth, fieldMask := p.fieldMask,
                     operand := p.operand, condition := cond })
      else none

/-- The rule definition that LOAD_RULE parameters give; none where R69 refuses it (the index apart). -/
def ruleDefOf (p : RuleParams) : Option RuleDef :=
  match windowModeOf p.windowMode, depthOf p.depth, compareOf p with
  | some wm, some dep, some cmp =>
    if p.base.toNat ≤ p.limit.toNat ∧ p.kinds ≠ 0 ∧ p.kinds.toNat < 4 ∧ p.classes ≠ 0 ∧
        p.minLength ≠ 0 ∧ p.minLength.toNat ≤ 64 ∧ p.termCount.toNat ≤ 8 ∧
        (p.terms.cells.take p.termCount.toNat).all (fun t => t.offset.toNat ≤ 63) = true ∧ p.actions.toNat < 8 then
      some { base := p.base, limit := p.limit, windowMode := wm, kindRd := p.kinds.getLsbD 0, kindWr := p.kinds.getLsbD 1,
             classes := p.classes, minLength := p.minLength, pattern := p.terms.cells.take p.termCount.toNat, compare := cmp,
             actions := ⟨p.actions.getLsbD 0, p.actions.getLsbD 1, p.actions.getLsbD 2⟩, depth := dep }
    else none
  | _, _, _ => none

/-- Bits from the least significant on. -/
def bitsByte (b0 b1 b2 : Bool) : Byte :=
  (if b0 then 1 else 0) ||| (if b1 then 2 else 0) ||| (if b2 then 4 else 0)

def compareBytes : Option Compare → List Byte
  | none => List.replicate 12 0x00
  | some c => [c.present, c.offset, c.width] ++ be32 c.fieldMask ++ be32 c.operand ++ [conditionByte c.condition]

/-- Bytes 1 to 51 of the LOAD_RULE layout as READ_RULE returns them: terms beyond the count and an absent Compare as zeros (R185). -/
def ruleDefBytes (d : RuleDef) : List Byte :=
  be32 d.base ++ be32 d.limit ++
  [windowModeByte d.windowMode, bitsByte d.kindRd d.kindWr false, d.classes, d.minLength,
   bitsByte d.actions.capture d.actions.block d.actions.signal, depthByte d.depth, BitVec.ofNat 8 d.pattern.length] ++
  d.pattern.flatMap termBytes ++ List.replicate (24 - 3 * d.pattern.length) 0x00 ++
  compareBytes d.compare

/-- The READ_RULE response of a rule that is not EMPTY (12.3). -/
def ruleBytes (r : Rule) : List Byte :=
  [ruleStateByte r.state] ++ ruleDefBytes r.defn ++ [BitVec.ofNat 8 r.useCount]

/-! ## Other responses (12.3) -/

/-- The READ_SOURCE response: State, Source ID, Class, flags, Damaged Count. -/
def sourceBytes (e : SourceEntry) : List Byte :=
  [flagByte e.valid, e.sourceId.setWidth 8, e.cls.setWidth 8, bitsByte e.forceOrdered e.demote false, e.damaged]

/-- The READ_COUNTERS response in the order of R118. -/
def ruleCounterBytes (k : RuleCounters) : List Byte :=
  be32 k.bin1to4 ++ be32 k.bin5to8 ++ be32 k.bin9to16 ++ be32 k.bin17to32 ++ be32 k.bin33to64 ++ be32 k.blocked

/-- The READ_GLOBALS response in the order of R119. -/
def globalBytes (k : Globals) (loss : BitVec 32) : List Byte :=
  be32 k.forwardedRequests ++ be32 k.forwardedReads ++ be32 k.forwardedWrites ++ be32 k.refused ++ be32 k.damaged ++
  be32 k.malformed ++ be32 k.duplicateTag ++ be32 k.strayResponses ++ be32 k.readExpiries ++ be32 k.intrusions ++
  be32 k.holdExpiries ++ be32 k.consumerInvalid ++ be32 loss

/-- The SEQ_STATUS response: State, Stage, Progress, Remaining (R153). -/
def seqStatusBytes (q : SeqState) : List Byte :=
  match q with
  | .off => [0x00, 0x00] ++ be16 0 ++ [0x00]
  | .run stage progress _ => [0x01, BitVec.ofNat 8 stage] ++ be16 (BitVec.ofNat 16 progress) ++ [0x00]
  | .post remaining => [0x02, 0x00] ++ be16 0 ++ [BitVec.ofNat 8 remaining]
  | .fired => [0x03, 0x00] ++ be16 0 ++ [0x00]

/-! ## Capture records (12.2, R184) -/

def kindByte : Kind → Byte
  | .rd => kindRd | .wr => kindWr

def outcomeByte : RecordOutcome → Byte
  | .forwarded => 0x01 | .refusedEarly => 0x02 | .refusedLate => 0x03 | .memoryFault => 0x04 | .responseDamaged => 0x05
  | .expired => 0x06

/-- Slot bytes 16 to 23, the same in memory and in READ_SNAPSHOT: Source, Class, Tag, Kind, Attr, Length, Outcome, Flags. -/
def recordMiddle (r : Record) : List Byte :=
  [r.source.setWidth 8, r.cls.setWidth 8, r.tag.setWidth 8, kindByte r.kind, bitsByte r.attr.u r.attr.g false, r.length,
   outcomeByte r.outcome, bitsByte r.fire r.post r.held]

/-- The 32-byte record header, little-endian (12.2). -/
def recordHeader (r : Record) : List Byte :=
  le32 r.seq ++ le32 r.time ++ le32 r.address ++ le32 r.matchSet ++ recordMiddle r ++ le16 r.latency ++ le16 r.heldTicks ++
  [r.dataCount, 0x00, 0x00, 0x00]

/-- The first `n` bytes of a list, zero bytes where it has none left. -/
def padTo (n : Nat) (bytes : List Byte) : List Byte := bytes.take n ++ List.replicate (n - bytes.length) 0x00

/-- Slot offsets 0 to 63: the header and data bytes 0 to 31 (R135). -/
def firstWriteData (r : Record) : List Byte := recordHeader r ++ padTo 32 r.data

/-- Slot offsets 64 to 95: data bytes 32 to 63 (R135). -/
def secondWriteData (r : Record) : List Byte := padTo 32 (r.data.drop 32)

/-- The READ_SNAPSHOT response; every byte 0 while the snapshot is empty (R161, R163, 12.3). -/
def snapshotBytes : Option Snapshot → List Byte
  | none => List.replicate 63 0x00
  | some x =>
    [0x01, x.resetCount] ++ be32 x.record.seq ++ be32 x.record.time ++ be32 x.record.address ++ be32 x.record.matchSet ++
    recordMiddle x.record ++ be16 x.record.latency ++ be16 x.record.heldTicks ++ [x.record.dataCount] ++ padTo 32 x.record.data

/-! ## SET_RING (R123) -/

def slotCounts : List Nat := [16, 32, 64, 128, 256, 512, 1024, 2048, 4096]

/-- A word of four bytes from `addr` has a byte in the ring area. Both are aligned when this is asked (R123). -/
def wordInRing (addr base : Addr) (slots : Nat) : Bool :=
  base.toNat ≤ addr.toNat && addr.toNat < base.toNat + Config.slotBytes * slots

/-- The configuration that SET_RING parameters give, as PENDING; none where the first check of R123 refuses them. -/
def ringConfigOf (p : RingParams) : Option RingConfig :=
  match ringModeOf p.mode, flagOf p.guard with
  | some mode, some guard =>
    if p.base.toNat % Config.slotBytes = 0 ∧ p.slots.toNat ∈ slotCounts ∧
        p.base.toNat + Config.slotBytes * p.slots.toNat ≤ 2 ^ 32 ∧
        p.producerAddr.toNat % 4 = 0 ∧ p.consumerAddr.toNat % 4 = 0 ∧ p.producerAddr ≠ p.consumerAddr ∧
        wordInRing p.producerAddr p.base p.slots.toNat = false ∧ wordInRing p.consumerAddr p.base p.slots.toNat = false then
      some { base := p.base, slots := p.slots.toNat, producerAddr := p.producerAddr, consumerAddr := p.consumerAddr, mode := mode,
             guard := guard, state := .pending }
    else none
  | _, _ => none

/-! ## Sequencer parameters -/

/-- The stage record that LOAD_STAGE parameters give; none where R148 refuses them (the index apart). -/
def stageOf (rules : RuleSet) (count : BitVec 16) (window : BitVec 32) (onExpiry : Byte) : Option StageRecord :=
  match onExpiryOf onExpiry with
  | none => none
  | some e => if rules ≠ 0 ∧ count ≠ 0 ∧ window.toNat ≤ 16777215 then some ⟨rules, count, window, e⟩ else none

/-- The settings that SET_SEQUENCER parameters give; none where R149 refuses them. -/
def settingsOf (stagesInUse : Byte) (abortRules : RuleSet) (postCount : BitVec 16) (fireActions : Byte) : Option SeqSettings :=
  if stagesInUse ≠ 0 ∧ stagesInUse.toNat ≤ 4 ∧ postCount.toNat ≤ 255 ∧ fireActions.toNat < 4 then
    some { stagesInUse := stagesInUse.toNat, abortRules := abortRules, postCount := postCount.toNat,
           freeze := fireActions.getLsbD 0, mark := fireActions.getLsbD 1 }
  else none

/-! ## SET_EVENT_ENABLE (R171) -/

/-- Level Enable and GE; none where a flag is neither set nor clear. -/
def eventEnableOf (l0 l1 l2 l3 ge : Byte) : Option (BitVec 4 × Bool) :=
  match flagOf l0, flagOf l1, flagOf l2, flagOf l3, flagOf ge with
  | some b0, some b1, some b2, some b3, some g =>
    some (BitVec.ofBool b3 ++ BitVec.ofBool b2 ++ BitVec.ofBool b1 ++ BitVec.ofBool b0, g)
  | _, _, _, _, _ => none

end Sys2Proof.Machine
end

