-- ==== Sys2Proof/Machine/Ops.lean ====
section
/-! DEFINITION. The operations that several commands share: raising events, counting, read tracking, slots and records, hold, the
consumer snoop, the sequencer, and the resolution of a transaction. -/

namespace Sys2Proof.Machine

/-! ## Saturating counts (R117, R166, R179) -/

/-- One more, staying at the largest value. -/
def satInc {n : Nat} (x : BitVec n) : BitVec n := if x = BitVec.allOnes n then x else x + 1

/-- `k` more, staying at the largest value. -/
def satAdd {n : Nat} (x : BitVec n) (k : Nat) : BitVec n :=
  if x.toNat + k < 2 ^ n then x + BitVec.ofNat n k else BitVec.allOnes n

/-! ## Events (10) -/

/-- The place of a source in source order, from 0 (R165). -/
def eventIndex : EventSource → Nat
  | .fire => 0 | .protocol => 1 | .damaged => 2 | .ringLoss => 3 | .overrun => 4 | .consumerInvalid => 5 | .ringIntrusion => 6
  | .holdExpired => 7 | .readExpired => 8 | .stray => 9 | .ruleSignal => 10

/-- The fixed level of a source (R165). -/
def eventLevel : EventSource → Nat
  | .fire => 0
  | .protocol | .damaged => 1
  | .ringLoss | .overrun | .consumerInvalid | .ringIntrusion | .holdExpired | .readExpired | .stray => 2
  | .ruleSignal => 3

/-- The sources in source order (R165). -/
def allSources : List EventSource :=
  [.fire, .protocol, .damaged, .ringLoss, .overrun, .consumerInvalid, .ringIntrusion, .holdExpired, .readExpired, .stray, .ruleSignal]

def eventRecord (e : EventController) (src : EventSource) : EventRecord := e.records.get (eventIndex src) ⟨false, 0⟩

/-- R166: one raise of a source, with the rules it carries. -/
def raiseEvent (src : EventSource) (rules : RuleSet) (e : EventController) : EventController :=
  { e with
    records := e.records.set (eventIndex src) ⟨true, satInc (eventRecord e src).count⟩
    signalRules := if src = .ruleSignal then e.signalRules ||| rules else e.signalRules }

/-- A raise of a source that carries no rules. -/
def raise (src : EventSource) (s : State) : State := { s with events := raiseEvent src 0 s.events }

/-- The lowest level in In-Service, or 4 (R167). -/
def threshold (e : EventController) : Nat :=
  if e.inService.getLsbD 0 then 0 else if e.inService.getLsbD 1 then 1 else if e.inService.getLsbD 2 then 2
  else if e.inService.getLsbD 3 then 3 else 4

/-- R168: EVT_n is asserted (driven low). -/
def evtAsserted (e : EventController) : Bool :=
  e.globalEnable && allSources.any fun src =>
    (eventRecord e src).pending && e.levelEnable.getLsbD (eventLevel src) && decide (eventLevel src < threshold e)

/-! ## Counters (07) -/

/-- The twelve global counters (R111). -/
inductive GlobalCounter where
  | forwardedRequests | forwardedReads | forwardedWrites | refused | damaged | malformed | duplicateTag | strayResponses
  | readExpiries | intrusions | holdExpiries | consumerInvalid
deriving DecidableEq, Repr

def countGlobal (k : GlobalCounter) (g : Globals) : Globals :=
  match k with
  | .forwardedRequests => { g with forwardedRequests := satInc g.forwardedRequests }
  | .forwardedReads => { g with forwardedReads := satInc g.forwardedReads }
  | .forwardedWrites => { g with forwardedWrites := satInc g.forwardedWrites }
  | .refused => { g with refused := satInc g.refused }
  | .damaged => { g with damaged := satInc g.damaged }
  | .malformed => { g with malformed := satInc g.malformed }
  | .duplicateTag => { g with duplicateTag := satInc g.duplicateTag }
  | .strayResponses => { g with strayResponses := satInc g.strayResponses }
  | .readExpiries => { g with readExpiries := satInc g.readExpiries }
  | .intrusions => { g with intrusions := satInc g.intrusions }
  | .holdExpiries => { g with holdExpiries := satInc g.holdExpiries }
  | .consumerInvalid => { g with consumerInvalid := satInc g.consumerInvalid }

/-- One more in a global counter. -/
def count (k : GlobalCounter) (s : State) : State :=
  { s with counters := { s.counters with globals := countGlobal k s.counters.globals } }

/-- R109: one more in the hit bin whose range contains the Length. -/
def countBin (len : Nat) (k : RuleCounters) : RuleCounters :=
  if len ≤ 4 then { k with bin1to4 := satInc k.bin1to4 }
  else if len ≤ 8 then { k with bin5to8 := satInc k.bin5to8 }
  else if len ≤ 16 then { k with bin9to16 := satInc k.bin9to16 }
  else if len ≤ 32 then { k with bin17to32 := satInc k.bin17to32 }
  else { k with bin33to64 := satInc k.bin33to64 }

/-- The counters of one matched rule at a resolution (R109): the hit bin in ACTIVE, Blocked for a BLOCK rule of a refused one. -/
def countRule (active blocked : Bool) (len : Nat) (k : RuleCounters) : RuleCounters :=
  let k := if active then countBin len k else k
  if blocked then { k with blocked := satInc k.blocked } else k

/-- The per-rule counts of a resolution (R65, R109). -/
def countRules (m : RuleSet) (len : Nat) (refused : Bool) (s : State) : State :=
  { s with counters := { s.counters with
      perRule := s.counters.perRule.mapIdx fun i k =>
        if hasRule m i then countRule (s.ctrl.mode == .active) (refused && (ruleAt s i).defn.actions.block) len k else k } }

/-- R40: the Damaged Count of the VALID entry that holds the Source field, the global Damaged counter, and DAMAGED (R11, R14). -/
def countDamaged (src : SourceId) (s : State) : State :=
  let s := { s with sources := s.sources.mapIdx fun _ e =>
    if e.valid && e.sourceId == src then { e with damaged := satInc e.damaged } else e }
  raise .damaged (count .damaged s)

/-! ## Use Counts (R49) -/

def addUses (m : RuleSet) (s : State) : State :=
  { s with rules := s.rules.mapIdx fun i r => if hasRule m i then { r with useCount := r.useCount + 1 } else r }

def dropUses (m : RuleSet) (s : State) : State :=
  { s with rules := s.rules.mapIdx fun i r => if hasRule m i then { r with useCount := r.useCount - 1 } else r }

def clearUses (s : State) : State :=
  { s with rules := s.rules.mapIdx fun _ r => { r with useCount := 0 } }

/-! ## Outstanding Read Table (05) -/

/-- The entry holds the key (R77). -/
def holdsKey (src : SourceId) (tag : Tag) (e : OrtEntry) : Bool := e.source == src && e.tag == tag

def isExpired (e : OrtEntry) : Bool :=
  match e.phase with
  | .expired _ => true
  | _ => false

/-- The entry holds the key and is found by a response's search: not in EXPIRED (R84). -/
def holdsKeyLive (src : SourceId) (tag : Tag) (e : OrtEntry) : Bool := holdsKey src tag e && !isExpired e

/-- The search of R81, in any phase. -/
def keyInOrt (src : SourceId) (tag : Tag) (s : State) : Bool := s.ort.any (holdsKey src tag)

/-- The search of R84. -/
def findLive (src : SourceId) (tag : Tag) (s : State) : Option OrtEntry := s.ort.find? (holdsKeyLive src tag)

/-- Takes the entry `e` that `p` finds out of the table; each rule of its pending set has its Use Count decreased by one (R84). -/
def removeEntry (p : OrtEntry → Bool) (e : OrtEntry) (s : State) : State :=
  dropUses e.pendingRules { s with ort := s.ort.eraseP p }

/-- R84: from Request Time to Arrival Time; 0 when the arrival was recorded in CREATED or not at all. Log 16 for the width. -/
def latencyOf (e : OrtEntry) : BitVec 16 :=
  match e.earlyArrival, e.requestTime, e.arrivalTime with
  | false, some sent, some arrived => (arrived - sent).setWidth 16
  | _, _, _ => 0

/-- R83: what an arrival with its key does to an entry. -/
def answerEntry (now : Ticks) (e : OrtEntry) : OrtEntry :=
  match e.phase with
  | .created => { e with phase := .answered, arrivalTime := some now, earlyArrival := true }
  | .timing => { e with phase := .answered, arrivalTime := some now }
  | .answered => e
  | .expired _ => e

/-- R82: what the sending of its read does to an entry: the timer starts unless the entry is already ANSWERED. -/
def startTimer (now : Ticks) (readTimeout : BitVec 16) (e : OrtEntry) : OrtEntry :=
  match e.phase with
  | .created => { e with phase := .timing, requestTime := some now, limit := some readTimeout }
  | .answered => if e.requestTime = none then { e with requestTime := some now, limit := some readTimeout } else e
  | .timing => e
  | .expired _ => e

/-- The entries that hold the key changed by `f`; at most one does (R77). -/
def changeEntry (src : SourceId) (tag : Tag) (f : OrtEntry → OrtEntry) (s : State) : State :=
  { s with ort := s.ort.map fun e => if holdsKey src tag e then f e else e }

/-- At least `limit` ticks have passed since `start`: a timer started then has run out (R24; log 5). -/
def hasRunOut (now start : Ticks) (limit : Nat) : Bool := decide (limit ≤ (now - start).toNat)

/-! ## Slots (08 section 8.2) -/

def headWaitsForRoom : RequestHead → Bool
  | .waitRoom _ _ => true
  | _ => false

def responseWaitsForRoom : ResponseHead → Bool
  | .waitRoom _ _ => true
  | _ => false

/-- W of R127: the records that have a slot and wait for room. -/
def waitingRecords (s : State) : Nat :=
  (headWaitsForRoom s.near.head).toNat + (responseWaitsForRoom s.far.head).toNat + s.ort.countP isExpired

/-- (P − C) mod 65536: the published records not consumed. -/
def unconsumed (r : RingController) : Nat := (r.p - r.c).toNat

/-- R127. -/
def reserved (s : State) : Nat := unconsumed s.ring + s.ring.queue.length + waitingRecords s

/-- R127: a slot is free. -/
def slotFree (s : State) : Bool := decide (reserved s < s.ring.config.slots)

/-- A record with a slot enters the queue at once only if the queue has room and no record waits before it (R107, R134). -/
def queueOpen (s : State) : Bool := decide (s.ring.queue.length < Config.captureQueueSize) && decide (waitingRecords s = 0)

/-- R128: the record enters the Capture Queue at its tail and is placed in its slot. -/
def enqueue (r : Record) (s : State) : State :=
  { s with ring := { s.ring with
      queue := s.ring.queue ++ [⟨r, (s.ring.p.toNat + s.ring.queue.length) % s.ring.config.slots⟩] } }

/-- One record lost: Ring Loss and RING_LOSS (R104, R132, R133). -/
def loseRecord (s : State) : State :=
  raise .ringLoss { s with ring := { s.ring with loss := satInc s.ring.loss } }

/-- R133: a record dropped in LOSSY mode or under OVERRUN. -/
def dropRecord (s : State) : State :=
  let s := loseRecord s
  if s.ring.overrun then s else raise .overrun { s with ring := { s.ring with overrun := true } }

/-! ## The heads of the two paths -/

def setHead (h : RequestHead) (s : State) : State := { s with near := { s.near with head := h } }
def setResponseHead (h : ResponseHead) (s : State) : State := { s with far := { s.far with head := h } }

/-- The head request leaves the Request Buffer and one request credit returns to the near side (R5). -/
def popRequest (s : State) : State :=
  { s with near := { s.near with buffer := s.near.buffer.tail, head := .fresh, granted := s.near.granted + 1 } }

/-- The request goes on after its capture step (R93, R94, R103). A refused write leaves and counts in Refused (R113). -/
def continueRequest (next : AfterCapture) (s : State) : State :=
  match next with
  | .forward f => setHead (.ready f) s
  | .drop => count .refused (popRequest s)
  | .refuse r => setHead (.waitRefusal r true) s

/-- A request whose record has its slot: the record enters the queue, or the request waits with it (R107). -/
def placeRequest (r : Record) (next : AfterCapture) (s : State) : State :=
  if queueOpen s then continueRequest next (enqueue r s) else setHead (.waitRoom r next) s

/-- A response whose record has its slot (R107). -/
def placeResponse (r : Record) (p : ResponsePacket) (s : State) : State :=
  if queueOpen s then setResponseHead (.ready p) (enqueue r s) else setResponseHead (.waitRoom r p) s

/-! ## Offering a record (R131) -/

/-- What R131 does with an offered record: reserves a slot, has its transaction held (or, from an expiry, loses it), or drops it. -/
inductive RecordFate where
  | reserve
  | hold
  | drop
deriving DecidableEq, Repr

def recordFate (s : State) : RecordFate :=
  if !s.ring.overrun && slotFree s then .reserve
  else
    match s.ring.config.mode with
    | .lossless => .hold
    | .lossy => .drop

/-- R101: a hold that begins now. -/
def newHold (r : Record) (s : State) : Hold := { record := r, start := s.time, limit := s.timers.holdLimit }

/-- Step 6 of the request path (R10, R131). -/
def captureRequest (r : Option Record) (next : AfterCapture) (s : State) : State :=
  match r with
  | none => continueRequest next s
  | some r =>
    match recordFate s with
    | .reserve => placeRequest r next s
    | .hold => setHead (.held (newHold r s) next) s
    | .drop => continueRequest next (dropRecord s)

/-- The capture step of the response path (R131). -/
def captureResponse (r : Option Record) (p : ResponsePacket) (s : State) : State :=
  match r with
  | none => setResponseHead (.ready p) s
  | some r =>
    match recordFate s with
    | .reserve => placeResponse r p s
    | .hold => setResponseHead (.held (newHold r s) p) s
    | .drop => setResponseHead (.ready p) (dropRecord s)

/-! ## Hold (06 section 6.5) -/

/-- Of two records created, `a` was created before `b`: Seq runs modulo 2^32 up to `next` (R126; log 12). -/
def createdBefore (next a b : BitVec 32) : Bool := decide ((next - b).toNat < (next - a).toNat)

/-- R103: the record of a hold that ends with a slot. Log 16 for the width of Held Ticks. -/
def heldRecord (h : Hold) (now : Ticks) : Record :=
  { h.record with held := true, heldTicks := (now - h.start).setWidth 16 }

/-- The held request takes a slot if one is free (R103). -/
def releaseRequest (s : State) : State :=
  match s.near.head with
  | .held h next => if slotFree s then placeRequest (heldRecord h s.time) next s else s
  | _ => s

/-- The held response takes a slot if one is free (R103). -/
def releaseResponse (s : State) : State :=
  match s.far.head with
  | .held h p => if slotFree s then placeResponse (heldRecord h s.time) p s else s
  | _ => s

/-- Both items are held and the response's hold was taken first: a hold begins when its record is created (R101; log 18). -/
def responseHeldFirst (s : State) : Bool :=
  match s.near.head, s.far.head with
  | .held h _, .held k _ => createdBefore s.ring.seq k.record.seq h.record.seq
  | _, _ => false

/-- R140: freed slots are offered to the held items in the order in which their holds began. -/
def offerFreedSlots (s : State) : State :=
  if responseHeldFirst s then releaseRequest (releaseResponse s) else releaseResponse (releaseRequest s)

/-- The held request goes on without its record (R26, R104). -/
def abandonHeldRequest (s : State) : State :=
  match s.near.head with
  | .held _ next => continueRequest next (loseRecord s)
  | _ => s

/-- The held response goes on without its record (R26, R104). -/
def abandonHeldResponse (s : State) : State :=
  match s.far.head with
  | .held _ p => setResponseHead (.ready p) (loseRecord s)
  | _ => s

/-! ## Consumer snoop (08 section 8.5) -/

/-- The write covers any byte of the Consumer Word (R138). -/
def coversConsumerWord (p : RequestPacket) (cfg : RingConfig) : Bool :=
  decide (p.address.toNat < cfg.consumerAddr.toNat + 4) && decide (cfg.consumerAddr.toNat < p.address.toNat + p.length.toNat)

/-- The candidate of a write that covers all four bytes (R138). -/
def candidateOf (p : RequestPacket) (cfg : RingConfig) : Option (BitVec 16) :=
  if p.address.toNat ≤ cfg.consumerAddr.toNat ∧ cfg.consumerAddr.toNat + 4 ≤ p.address.toNat + p.length.toNat then
    let off := cfg.consumerAddr.toNat - p.address.toNat
    some (BitVec.ofNat 16 (leNat ((p.data.drop off).take 2)))
  else none

/-- R139, R143: an accepted update moves C, may clear OVERRUN, and offers freed slots to held items. -/
def acceptUpdate (c' : BitVec 16) (s : State) : State :=
  offerFreedSlots { s with ring := { s.ring with
    c := c', overrun := s.ring.overrun && !s.ring.overrunSeen, overrunSeen := false } }

/-- R139: a rejected update; it counts when the mode is ACTIVE or FROZEN (R115). -/
def rejectUpdate (s : State) : State :=
  let s := raise .consumerInvalid s
  if s.ctrl.mode = .bypass then s else count .consumerInvalid s

/-- R138, R139: the snoop of a well-formed write on its arrival. -/
def snoop (p : RequestPacket) (s : State) : State :=
  if s.ring.config.state = .valid ∧ coversConsumerWord p s.ring.config = true then
    match candidateOf p s.ring.config with
    | some c' => if (c' - s.ring.c).toNat ≤ unconsumed s.ring then acceptUpdate c' s else rejectUpdate s
    | none => rejectUpdate s
  else s

/-! ## Trigger Sequencer (09) -/

def stageAt (q : Sequencer) (k : Nat) : StageRecord := q.stages.get k StageRecord.cleared

/-- Entry into stage `k`: progress 0, and the window starts if the stage has one (R150, R154). -/
def enterStage (k : Nat) (now : Ticks) (q : Sequencer) : SeqState :=
  .run k 0 (if (stageAt q k).window = 0 then none else some now)

/-- R154: the state after a match set; none where it completes the last stage in use and the sequencer fires. -/
def takeMatch (m : RuleSet) (now : Ticks) (q : Sequencer) : Option SeqState :=
  match q.state with
  | .run k progress windowStart =>
    if meets m q.settings.abortRules then some (enterStage 0 now q)
    else if meets m (stageAt q k).rules then
      if progress + 1 < (stageAt q k).count.toNat then some (.run k (progress + 1) windowStart)
      else if k + 1 < q.settings.stagesInUse then some (enterStage (k + 1) now q)
      else none
    else some q.state
  | .off => some .off
  | .post r => some (.post r)
  | .fired => some .fired

def setSeqState (st : SeqState) (s : State) : State := { s with seqr := { s.seqr with state := st } }

/-- The sequencer becomes FIRED, and requests a freeze if FREEZE is among its Fire Actions (R160). -/
def enterFired (s : State) : State :=
  let s := setSeqState .fired s
  if s.seqr.settings.freeze then { s with ctrl := { s.ctrl with freezeRequests := s.ctrl.freezeRequests + 1 } } else s

/-- R159: MARK goes high at a firing with MARK among the Fire Actions. -/
def startMark (s : State) : State :=
  if s.seqr.settings.mark then { s with seqr := { s.seqr with markFiredAt := some s.time } } else s

/-- R158, but for the record and the Fire Snapshot, which follow when the record is created. -/
def fire (s : State) : State :=
  let s := startMark (raise .fire s)
  if s.seqr.settings.postCount = 0 then enterFired s else setSeqState (.post s.seqr.settings.postCount) s

/-- R67, R154: a resolved match set offered to the sequencer, and whether it fires it. -/
def offerToSequencer (m : RuleSet) (s : State) : State × Bool :=
  match takeMatch m s.time s.seqr with
  | some st => (setSeqState st s, false)
  | none => (fire s, true)

def inPost : SeqState → Bool
  | .post _ => true
  | _ => false

/-- R160: a record created in POST counts. -/
def countPost (s : State) : State :=
  match s.seqr.state with
  | .post r => if r ≤ 1 then enterFired s else setSeqState (.post (r - 1)) s
  | _ => s

/-- R162: the Fire Snapshot takes the firing record as created, if it is empty. -/
def takeSnapshot (r : Record) (s : State) : State :=
  match s.seqr.snapshot with
  | some _ => s
  | none =>
    { s with seqr := { s.seqr with
        snapshot := some { resetCount := s.port.resetCount, record := { r with data := padTo 32 r.data } } } }

/-! ## Resolution (04 section 4.6) -/

/-- What a transaction hands to its resolution besides its match set. `data` is the data it has to carry: none where R68 gives none. -/
structure Transaction where
  kind    : Kind
  source  : SourceId
  tag     : Tag
  cls     : ClassNo
  attr    : Attr
  address : Addr
  length  : Byte
  outcome : RecordOutcome
  latency : BitVec 16
  data    : List Byte
deriving DecidableEq, Repr

/-- R66: RULE_SIGNAL is raised once, with the matched rules that have SIGNAL. -/
def signalRule (m : RuleSet) (s : State) : State :=
  if meets m (signalRules s) then { s with events := raiseEvent .ruleSignal (m &&& signalRules s) s.events } else s

/-- The data a record carries (R68). -/
def carriedData (m : RuleSet) (x : Transaction) (s : State) : List Byte :=
  if meets m (withDataRules s) then x.data else []

/-- R129 steps 1 to 3, R130: the record as created. -/
def newRecord (m : RuleSet) (x : Transaction) (fired : Bool) (s : State) : Record :=
  { seq := s.ring.seq, time := s.time, source := x.source, tag := x.tag, cls := x.cls, kind := x.kind, attr := x.attr,
    address := x.address, length := x.length, outcome := x.outcome, matchSet := m, fire := fired,
    post := !fired && inPost s.seqr.state, held := false, latency := x.latency, heldTicks := 0,
    dataCount := BitVec.ofNat 8 (carriedData m x s).length, data := carriedData m x s }

/-- R129: the creation takes a Seq and is reported to the sequencer, as FIRE (R158, R162) or towards the post count (R160). -/
def createRecord (m : RuleSet) (x : Transaction) (fired : Bool) (s : State) : State × Record :=
  let r := newRecord m x fired s
  let s := { s with ring := { s.ring with seq := s.ring.seq + 1 } }
  (if fired then takeSnapshot r s else countPost s, r)

/-- R64 to R68: the outcome of a resolved match set, but for refusal and the offer of the record: per-rule counts, SIGNAL, the offer
to the sequencer, and the record if one is needed. In FROZEN and BYPASS only Blocked counts. -/
def resolve (m : RuleSet) (x : Transaction) (refused : Bool) (s : State) : State × Option Record :=
  let s := countRules m x.length.toNat refused s
  if s.ctrl.mode = .active then
    let o := offerToSequencer m (signalRule m s)
    if o.2 || meets m (captureRules o.1) then
      let c := createRecord m x o.2 o.1
      (c.1, some c.2)
    else (o.1, none)
  else (s, none)

/-! ## Packets the part makes -/

/-- R96. -/
def fillData (addr : Addr) (len : Nat) (s : State) : List Byte :=
  (List.range len).map fun i => s.fill.get ((addr.toNat + i) % 16) 0

/-- A REFUSED response with its check (R12, R94, R98); spare bits 0 (R183). -/
def refusedResponse (src : SourceId) (tag : Tag) (attr : Attr) (length : Byte) (data : List Byte) : ResponsePacket :=
  rspSealed { status := statusRefused, attr := attr, source := src, spare := 0, tag := tag, length := length, data := data,
              check := 0 }

/-- A write of the Capture Writer, with the Monitor Source now in force (R17, R135). -/
def ownWrite (addr : Addr) (data : List Byte) (s : State) : RequestPacket :=
  reqSealed { kind := kindWr, attr := ⟨false, false⟩, source := s.timers.monitorSource, spare := 0, tag := 0,
              length := BitVec.ofNat 8 data.length, address := addr, data := data, check := 0 }

/-- The address of a slot's first byte (R128). -/
def slotAddress (slot : Nat) (s : State) : Addr := s.ring.config.base + BitVec.ofNat 32 (Config.slotBytes * slot)

def firstWrite (q : QueuedRecord) (s : State) : RequestPacket :=
  ownWrite (slotAddress q.slot s) (firstWriteData q.record) s

def secondWrite (q : QueuedRecord) (s : State) : RequestPacket :=
  ownWrite (slotAddress q.slot s + 64) (secondWriteData q.record) s

/-- A Producer Word write (R135, R184). -/
def producerWrite (value : BitVec 16) (s : State) : RequestPacket :=
  ownWrite s.ring.config.producerAddr (le32 (value.setWidth 32)) s

/-! ## Mode entry (02 section 2.3) -/

/-- R26: an entry orphaned, unless it is in EXPIRED. -/
def orphan (e : OrtEntry) : OrtEntry :=
  if isExpired e then e else { e with pendingRules := 0, noData := 0, orphaned := true }

/-- R26, R60: a read that waits for an entry carries empty sets from the entry into BYPASS on. -/
def orphanHead : RequestHead → RequestHead
  | .waitOrt w => .waitOrt { w with pendingRules := 0, noData := 0, bypassed := true }
  | h => h

def setMode (m : Mode) (s : State) : State := { s with ctrl := { s.ctrl with mode := m } }

/-- Both held items go on without their records (R26, R27). -/
def abandonHeld (s : State) : State := abandonHeldResponse (abandonHeldRequest s)

/-- R26. -/
def enterBypass (s : State) : State :=
  let s := clearUses { s with ort := s.ort.map orphan, near := { s.near with head := orphanHead s.near.head } }
  setMode .bypass (abandonHeld s)

/-- R27: every held item goes on without its record, the transaction that caused the freeze included (log 25). -/
def enterFrozen (s : State) : State := setMode .frozen (abandonHeld s)

/-- R28. -/
def enterActive (s : State) : State := setMode .active s

/-- The entry effects of a mode (R25 step 6). -/
def enterMode : Mode → State → State
  | .bypass => enterBypass
  | .active => enterActive
  | .frozen => enterFrozen

/-! ## Outputs -/

/-- FRST_n is asserted (R19, R20). -/
def frstAsserted (s : State) : Bool := !s.linkUp

/-- MARK is high (R159). -/
def markHigh (s : State) : Bool := s.seqr.markFiredAt.isSome

/-- The part is held in power-on or board reset: no frame is taken and Time stands (R24, R182; log 17). -/
def inHardReset (s : State) : Bool := s.pins.power || s.pins.board

end Sys2Proof.Machine
end

