-- ==== Sys2Proof/Machine/Arbiters.lean ====
section
/-! DEFINITION. The two arbiters and the Capture Writer: FAR_PORT_GRANT, CAPTURE_WRITER_START, NEAR_PORT_RESPONSE_GRANT (01 section 1.6,
08 section 8.4). -/

namespace Sys2Proof.Machine

/-! ## The Far port (R17) -/

/-- The request offered to the Far-port arbiter, if one is (R10 step 7). -/
def offeredRequest (s : State) : Option Forwarding :=
  match s.near.head with
  | .ready f => some f
  | _ => none

/-- The packet the Capture Writer presents, if any (R135). -/
def presentedPacket : Writer → Option RequestPacket
  | .idle => none
  | .first p => some p
  | .second p => some p
  | .producer p _ => some p

/-- R17: who wins the next grant, if a contender is ready. -/
def farWinner (s : State) : Option FarContender :=
  match offeredRequest s, presentedPacket s.ring.writer with
  | none, none => none
  | some _, none => some .request
  | none, some _ => some .writer
  | some _, some _ => some (match s.far.lastWinner with | .request => .writer | .writer => .request)

/-- A packet is sent on the Far port: it spends a credit and sets the last-winner flag. -/
def sendFar (p : RequestPacket) (w : FarContender) (s : State) : State :=
  { s with far := { s.far with credits := s.far.credits - 1, lastWinner := w, sent := s.far.sent ++ [p] } }

/-- R112: a request sent counts as forwarded, by its Kind field, if it reached the head in ACTIVE or FROZEN. -/
def countForwarded (f : Forwarding) (s : State) : State :=
  if f.counted then
    if f.packet.kind = kindRd then count .forwardedReads (count .forwardedRequests s)
    else count .forwardedWrites (count .forwardedRequests s)
  else s

/-- R82: the sending of a tracked read starts the timer of its entry. -/
def startReadTimer (f : Forwarding) (s : State) : State :=
  if f.tracked then changeEntry f.packet.source f.packet.tag (startTimer s.time s.timers.readTimeout) s else s

/-- The passing request is sent and leaves the Request Buffer (R5, R10). -/
def grantRequest (f : Forwarding) (s : State) : State :=
  startReadTimer f (countForwarded f (popRequest (sendFar f.packet .request s)))

/-- R136: the record at the head of the Capture Queue is published. -/
def publish (s : State) : State :=
  { s with ring := { s.ring with p := s.ring.p + 1, queue := s.ring.queue.tail, writer := .idle } }

/-- R125: a PENDING SET_RING completes. -/
def completeSetRing (s : State) : State :=
  { s with ring := { s.ring with config := { s.ring.config with state := .valid }, writer := .idle },
           port := { s.port with slot := .doneOk } }

def setWriter (w : Writer) (s : State) : State := { s with ring := { s.ring with writer := w } }

/-- The Producer Word write of the record at the head of the queue: the new P (R135). -/
def presentProducer (s : State) : State := setWriter (.producer (producerWrite (s.ring.p + 1) s) false) s

/-- R135: the Capture Writer after the grant of its packet. -/
def advanceWriter (s : State) : State :=
  match s.ring.writer with
  | .idle => s
  | .first _ =>
    match s.ring.queue with
    | [] => setWriter .idle s
    | q :: _ => if 32 < q.record.dataCount.toNat then setWriter (.second (secondWrite q s)) s else presentProducer s
  | .second _ => presentProducer s
  | .producer _ false => publish s
  | .producer _ true => completeSetRing s

/-- FAR_PORT_GRANT (R7, R17): the arbiter grants while the link is up, the part holds a request credit and a contender is ready.
Otherwise nothing changes (log 4). -/
def execFarPortGrant (s : State) : Host.Outcome State Fault Refusal :=
  if s.linkUp = true ∧ 0 < s.far.credits then
    match farWinner s, offeredRequest s, presentedPacket s.ring.writer with
    | some .request, some f, _ => .next (grantRequest f s)
    | some .writer, _, some p => .next (advanceWriter (sendFar p .writer s))
    | _, _, _ => .next s
  else .next s

/-- CAPTURE_WRITER_START (R135): an IDLE writer takes the head record, with the link up, and presents its first write. Otherwise
nothing changes (log 4). -/
def execCaptureWriterStart (s : State) : Host.Outcome State Fault Refusal :=
  match s.ring.writer, s.ring.queue with
  | .idle, q :: _ => if s.linkUp then .next (setWriter (.first (firstWrite q s)) s) else .next s
  | _, _ => .next s

/-! ## The Near port's response side (R18) -/

/-- The memory response offered to the Near-port response arbiter, if one is. -/
def offeredResponse (s : State) : Option ResponsePacket :=
  match s.far.head with
  | .ready p => some p
  | _ => none

/-- R18: who wins the next grant, if a contender is ready. -/
def nearWinner (s : State) : Option NearContender :=
  match offeredResponse s, s.near.refusals with
  | none, [] => none
  | some _, [] => some .memory
  | none, _ :: _ => some .refusalQueue
  | some _, _ :: _ => some (match s.near.lastWinner with | .memory => .refusalQueue | .refusalQueue => .memory)

/-- A response is sent on the Near port: it spends a credit and sets the last-winner flag. -/
def sendNear (p : ResponsePacket) (w : NearContender) (s : State) : State :=
  { s with near := { s.near with credits := s.near.credits - 1, lastWinner := w, sent := s.near.sent ++ [p] } }

/-- The head response leaves the Response Buffer and one credit returns to the far side (R8). -/
def popResponse (s : State) : State :=
  { s with far := { s.far with buffer := s.far.buffer.tail, head := .fresh, granted := s.far.granted + 1 } }

/-- NEAR_PORT_RESPONSE_GRANT (R6, R18): the arbiter grants while the link is up, the part holds a response credit and a contender is
ready. Otherwise nothing changes (log 4). -/
def execNearPortResponseGrant (s : State) : Host.Outcome State Fault Refusal :=
  if s.linkUp = true ∧ 0 < s.near.credits then
    match nearWinner s, offeredResponse s, s.near.refusals with
    | some .memory, some p, _ => .next (popResponse (sendNear p .memory s))
    | some .refusalQueue, _, p :: rest =>
      .next (sendNear p .refusalQueue { s with near := { s.near with refusals := rest } })
    | _, _, _ => .next s
  else .next s

end Sys2Proof.Machine
end

