-- ==== Sys2Proof/Machine/Serial.lean ====
section
/-! DEFINITION. The serial link of the Management port, edge by edge: SEL_n, SCK, SDI and SDO, and the frame in progress (11 sections
11.1, 11.2, 11.4, 11.5 and 11.8). -/

namespace Sys2Proof.Machine

/-! ## The end of a frame -/

/-- The frame in progress, if there is one, ends or is discarded: what the host read of it is put on record (log 9), and SDO is high
impedance from here on. -/
def closeFrame (p : MgmtPort) : MgmtPort :=
  { p with
    sdo := if p.link.read = [] then p.sdo else p.sdo ++ [p.link.read]
    link := { p.link with frame := .absent, sdo := none, read := [] } }

/-- R179: SEL_n rises before the command check byte is complete. A frame without a bit is no fault (R174). -/
def countAbort (p : MgmtPort) : MgmtPort :=
  match p.link.frame with
  | .receiving (_ :: _) => { p with frameFault := satInc p.frameFault, lastFrameAborted := true }
  | _ => p

/-! ## Edges (R174) -/

/-- The host samples SDO at a rising edge of SCK. -/
def sampled (l : SerialLink) : List Bool := l.read ++ l.sdo.toList

/-- SDI is sampled at a rising edge of SCK. Without a frame the edge is ignored. After a command byte that names no command the port drives
the BAD_COMMAND code on every byte (R178). -/
def sampleBit (sdi : Bool) (l : SerialLink) : SerialLink :=
  match l.frame with
  | .absent => { l with sckHigh := true }
  | .sending _ _ => { l with sckHigh := true, read := sampled l }
  | .receiving bits =>
    { l with
      sckHigh := true
      read := sampled l
      frame := if reception (bits ++ [sdi]) = .unknown then .sending [] (resultByte .badCommand) else .receiving (bits ++ [sdi]) }

/-- SDO changes after a falling edge of SCK to the bit that the next rising edge will sample: 0 while the host sends (R175), then the
answer, then its fill. -/
def shiftOut (l : SerialLink) : SerialLink :=
  match l.frame with
  | .absent => { l with sckHigh := false }
  | .receiving _ => { l with sckHigh := false, sdo := some false }
  | .sending (b :: out) fill => { l with sckHigh := false, sdo := some b, frame := .sending out fill }
  | .sending [] fill =>
    { l with sckHigh := false, sdo := some (fill.getLsbD 7), frame := .sending (byteBits fill).tail fill }

/-- R174: a frame begins at the falling edge of SEL_n, from which SDO drives the first bit, a 0. -/
def openFrame (l : SerialLink) : SerialLink := { l with selLow := true, frame := .receiving [], sdo := some false, read := [] }

/-- One edge at the port while it is out of power-on and board reset. An edge to the level a pin has already is none. -/
def portEdge (p : MgmtPort) (e : PortEdge) : MgmtPort :=
  match e with
  | .selFall => if p.link.selLow then p else { p with link := openFrame p.link }
  | .selRise =>
    if p.link.selLow then
      let q := closeFrame (countAbort p)
      { q with link := { q.link with selLow := false } }
    else p
  | .sckRise sdi => if p.link.sckHigh then p else { p with link := sampleBit sdi p.link }
  | .sckFall => if p.link.sckHigh then { p with link := shiftOut p.link } else p

/-- The edge completes the check byte of a known command: it is the event of that command's row (R177). -/
def completesFrame (p : MgmtPort) (e : PortEdge) : Bool :=
  match e, p.link.frame with
  | .sckRise sdi, .receiving bits => !p.link.sckHigh && decide (reception (bits ++ [sdi]) = .whole)
  | _, _ => false

/-- Edges in order, up to one that completes a frame: that edge and what comes after it belong to the row of the command (log 8). -/
def portEdges : List PortEdge → MgmtPort → MgmtPort
  | [], p => p
  | e :: es, p => if completesFrame p e then p else portEdges es (portEdge p e)

/-- One edge in power-on or board reset: the pin changes and the port ignores it (R182). -/
def pinEdge (l : SerialLink) (e : PortEdge) : SerialLink :=
  match e with
  | .selFall => { l with selLow := true }
  | .selRise => { l with selLow := false }
  | .sckRise _ => { l with sckHigh := true }
  | .sckFall => { l with sckHigh := false }

/-- Edges that belong to no frame's row: taken by the port, or in power-on and board reset ignored (R182). -/
def takeEdges (es : List PortEdge) (s : State) : State :=
  if inHardReset s then { s with port := { s.port with link := es.foldl pinEdge s.port.link } }
  else { s with port := portEdges es s.port }

/-! ## Frames received in whole -/

/-- The port can receive these bits as a frame, or as the rest of the frame in progress: what it has sampled of that one are the first of
them. A frame of another kind has SEL_n rise and fall first. -/
def canReceive (bits : List Bool) (p : MgmtPort) : Bool :=
  match p.link.frame with
  | .receiving got => got.isPrefixOf bits
  | _ => true

/-- The port right before a frame is received: another frame, the answer of which was being read, has ended. -/
def endedAnswer (p : MgmtPort) : MgmtPort :=
  match p.link.frame with
  | .receiving _ => p
  | _ => closeFrame p

/-- The port at the rising edge of SCK that samples the last of the bits of a frame, 0 having been driven on SDO through all of them
(R174, R175). -/
def received (bits : List Bool) (p : MgmtPort) : MgmtPort :=
  { endedAnswer p with link :=
    { selLow := true, sckHigh := true, frame := .receiving bits, sdo := some false, read := List.replicate bits.length false } }

/-- From the next byte on the port drives these bytes, and then the fill byte (R175, R178). -/
def startSending (bytes : List Byte) (fill : Byte) (p : MgmtPort) : MgmtPort :=
  { p with link := { p.link with frame := .sending (bytesBits bytes) fill } }

end Sys2Proof.Machine
end

