-- ==== Sys2Proof/Machine/Port.lean ====
section
/-! DEFINITION. The Management port's frames, and the commands that the port itself owns: FRAME_ABORT, BAD_COMMAND, STATUS (11). -/

namespace Sys2Proof.Machine

/-- What the owning block answers to a command: the result, the response bytes sent with OK, and the state after (R177). -/
structure Reply where
  result   : ResultCode
  response : List Byte
  state    : State

/-- A command taken with a result and no response bytes. -/
def replyWith (r : ResultCode) (s : State) : Reply := ⟨r, [], s⟩

/-- The state once a frame is answered: the port has received its bits, drives the answer from the turnaround byte on and 0xFF after it,
and sees the edges that follow (R175). -/
def answer (cmd : MgmtCommand) (params : List Byte) (r : Reply) (tail : FrameTail) : State :=
  { r.state with
    port := portEdges tail.after
      (startSending (answerBytes cmd r.result r.response) 0xFF (received (frameBits cmd params tail.check) r.state.port)) }

/-- The command check byte matches (R176). -/
def checkMatches (cmd : MgmtCommand) (params : List Byte) (tail : FrameTail) : Bool := crc8 (codeOf cmd :: params) == tail.check

/-- The port takes a frame of these bits: it is out of power-on and board reset (R182), and no other frame is being received. -/
def takesFrame (bits : List Bool) (s : State) : Bool := !inHardReset s && canReceive bits s.port

/-- R176, R177, R182: a whole frame of a known command. Where the port takes no such frame nothing changes (log 4); with a bad check nothing
is executed; otherwise the owning block takes the command as one event. `body` gives the block's reply at a state. -/
def runFrame (cmd : MgmtCommand) (params : List Byte) (tail : FrameTail) (body : State → Reply) (s : State) : State :=
  if takesFrame (frameBits cmd params tail.check) s then
    if checkMatches cmd params tail then answer cmd params (body s) tail
    else answer cmd params (replyWith .badCheck s) tail
  else s

/-- FRAME_ABORT (R174, R179, R182): SEL_n rises, SCK low again, after bits that make no whole command, and other edges follow. Without a
bit the frame has no effect; where the port takes no such frame nothing changes (log 4). -/
def execFrameAbort (bits : List Bool) (after : List PortEdge) (s : State) : Host.Outcome State Fault Refusal :=
  if reception bits = .incomplete then
    if takesFrame bits s then .next { s with port := portEdges (.sckFall :: .selRise :: after) (received bits s.port) } else .next s
  else .refused .illFormed

/-- BAD_COMMAND (R178, R182): every byte after the unknown command byte reads the BAD_COMMAND code until SEL_n rises, and nothing is
executed. Where the port takes no such frame nothing changes (log 4). -/
def execBadCommand (code : Byte) (after : List PortEdge) (s : State) : Host.Outcome State Fault Refusal :=
  if knownCode code then .refused .illFormed
  else if takesFrame (byteBits code) s then
    .next { s with port := portEdges after (startSending [] (resultByte .badCommand) (received (byteBits code) s.port)) }
  else .next s

/-- The STATUS response in the order of R181; EVT_n reads 0x01 while asserted (log 14). -/
def statusBytes (s : State) : List Byte :=
  [modeByte s.ctrl.mode, flagByte s.ctrl.guardLock, slotByte s.port.slot, resetKindByte s.port.lastReset, s.port.resetCount,
   s.port.frameFault, flagByte s.port.lastFrameAborted, configStateByte s.ring.config.state, flagByte s.ring.overrun,
   seqStateByte s.seqr.state, flagByte (evtAsserted s.events), Config.version]

/-- R180: a STATUS that reports DONE makes the slot IDLE. -/
def reportSlot : LongSlot → LongSlot
  | .idle => .idle
  | .pending => .pending
  | .doneOk => .idle
  | .doneAborted => .idle

def statusReply (s : State) : Reply :=
  ⟨.ok, statusBytes s, { s with port := { s.port with slot := reportSlot s.port.slot, lastFrameAborted := false } }⟩

/-- STATUS (R181). -/
def execStatus (tail : FrameTail) (s : State) : Host.Outcome State Fault Refusal :=
  .next (runFrame .status [] tail statusReply s)

end Sys2Proof.Machine
end

