-- ==== Sys2Proof/Machine/EventCommands.lean ====
section
/-! DEFINITION. TAKE_EVENT, END_EVENT and SET_EVENT_ENABLE (10 section 10.3). -/

namespace Sys2Proof.Machine

/-- The source can be taken: it is pending and its level is in Level Enable (R169). -/
def takeable (e : EventController) (src : EventSource) : Bool :=
  (eventRecord e src).pending && e.levelEnable.getLsbD (eventLevel src)

/-- R169 step 1: the first of lowest level. Source order does not go back in level (R165), so that is the first in source order. -/
def selectEvent (e : EventController) : Option EventSource := allSources.find? (takeable e)

/-- The rule set a TAKE_EVENT of the source returns (R169). -/
def takenRules (e : EventController) (src : EventSource) : RuleSet := if src = .ruleSignal then e.signalRules else 0

/-- R169 steps 3 to 5. -/
def takeSource (src : EventSource) (e : EventController) : EventController :=
  { e with
    records := e.records.set (eventIndex src) ⟨false, 0⟩
    signalRules := if src = .ruleSignal then 0 else e.signalRules
    inService := e.inService ||| BitVec.twoPow 4 (eventLevel src)
    globalEnable := false }

/-- The TAKE_EVENT response: source, level, Occurrence count, rule set (12.3). -/
def takenBytes (e : EventController) (src : EventSource) : List Byte :=
  [BitVec.ofNat 8 (eventIndex src + 1), BitVec.ofNat 8 (eventLevel src), (eventRecord e src).count] ++ be32 (takenRules e src)

def takeEventReply (s : State) : Reply :=
  match selectEvent s.events with
  | none => replyWith .noEvent s
  | some src => ⟨.ok, takenBytes s.events src, { s with events := takeSource src s.events }⟩

/-- TAKE_EVENT (R169). -/
def execTakeEvent (tail : FrameTail) (s : State) : Host.Outcome State Fault Refusal :=
  .next (runFrame .takeEvent [] tail takeEventReply s)

/-- R170: the lowest level leaves In-Service and GE becomes set. -/
def endService (e : EventController) : EventController :=
  { e with inService := e.inService &&& ~~~ BitVec.twoPow 4 (threshold e), globalEnable := true }

def endEventReply (s : State) : Reply :=
  if s.events.inService = 0 then replyWith .noneInService { s with events := { s.events with globalEnable := true } }
  else ⟨.ok, [BitVec.ofNat 8 (threshold s.events)], { s with events := endService s.events }⟩

/-- END_EVENT (R170). -/
def execEndEvent (tail : FrameTail) (s : State) : Host.Outcome State Fault Refusal :=
  .next (runFrame .endEvent [] tail endEventReply s)

def setEventEnableReply (l0 l1 l2 l3 ge : Byte) (s : State) : Reply :=
  match eventEnableOf l0 l1 l2 l3 ge with
  | none => replyWith .badParam s
  | some x => replyWith .ok { s with events := { s.events with levelEnable := x.1, globalEnable := x.2 } }

/-- SET_EVENT_ENABLE (R171). -/
def execSetEventEnable (l0 l1 l2 l3 ge : Byte) (tail : FrameTail) (s : State) : Host.Outcome State Fault Refusal :=
  .next (runFrame .setEventEnable [l0, l1, l2, l3, ge] tail (setEventEnableReply l0 l1 l2 l3 ge) s)

end Sys2Proof.Machine
end

