-- ==== Sys2Proof/Machine/Link.lean ====
section
/-! DEFINITION. What reaches the two M-link ports: packets and credits (01 sections 1.1 and 1.3). -/

namespace Sys2Proof.Machine

/-- R1: a request with a matching check is malformed if any of five things holds. -/
def isMalformed (p : RequestPacket) : Bool :=
  (p.kind != kindRd && p.kind != kindWr) || p.length.toNat == 0 || decide (64 < p.length.toNat) ||
    decide (64 < p.address.toNat % 64 + p.length.toNat) || (p.kind == kindWr && p.data.length != p.length.toNat) ||
    (p.kind == kindRd && !p.data.isEmpty)

/-- R1: the classification of a request on its arrival. -/
def classify (p : RequestPacket) : Classification :=
  if !reqGoodCheck p then .damaged else if isMalformed p then .malformed else .wellFormed

/-- R2: a response is damaged on its arrival if any of five things holds. -/
def isDamagedResponse (p : ResponsePacket) : Bool :=
  !rspGoodCheck p || (p.status != statusOk && p.status != statusFault && p.status != statusRefused) ||
    p.data.length != p.length.toNat || decide (64 < p.length.toNat) || (p.status == statusFault && p.length != 0)

/-- The request enters the tail of the Request Buffer with its classification, and spends a credit. -/
def bufferRequest (p : RequestPacket) (s : State) : State :=
  { s with near := { s.near with buffer := s.near.buffer ++ [⟨p, classify p⟩], granted := s.near.granted - 1 } }

/-- The response enters the tail of the Response Buffer, and spends a credit. -/
def bufferResponse (p : ResponsePacket) (s : State) : State :=
  { s with far := { s.far with buffer := s.far.buffer ++ [⟨p, isDamagedResponse p⟩], granted := s.far.granted - 1 } }

/-- REQUEST_ARRIVAL (R1, R5, R19): a packet that arrives while the link is in reset, or while all 8 entries are occupied, is
discarded; any other enters the buffer, and a well-formed write is presented to the consumer snoop. -/
def execRequestArrival (p : RequestPacket) (s : State) : Host.Outcome State Fault Refusal :=
  if !s.linkUp || decide (Config.requestBufferSize ≤ s.near.buffer.length) then .next s
  else if classify p = .wellFormed ∧ p.kind = kindWr then .next (snoop p (bufferRequest p s))
  else .next (bufferRequest p s)

/-- RESPONSE_ARRIVAL (R2, R8, R19, R83): a packet that arrives while the link is in reset, or while all 8 entries are occupied, is
discarded; any other enters the buffer and is reported to Read Tracking. -/
def execResponseArrival (p : ResponsePacket) (s : State) : Host.Outcome State Fault Refusal :=
  if !s.linkUp || decide (Config.responseBufferSize ≤ s.far.buffer.length) then .next s
  else .next (changeEntry p.source p.tag (answerEntry s.time) (bufferResponse p s))

/-- A count of credits after a grant or return of `n`: what would raise it above 16 is discarded (R6, R7; log 10). -/
def addCredits (held n : Nat) : Nat := if held + n ≤ Config.creditLimit then held + n else held

/-- FAR_REQUEST_CREDIT (R7, R20): the far side advertises or returns request credits. -/
def execFarRequestCredit (n : Nat) (s : State) : Host.Outcome State Fault Refusal :=
  if s.linkUp then .next { s with far := { s.far with credits := addCredits s.far.credits n } } else .next s

/-- NEAR_RESPONSE_CREDIT (R6, R20): the near side grants or returns response credits. -/
def execNearResponseCredit (n : Nat) (s : State) : Host.Outcome State Fault Refusal :=
  if s.linkUp then .next { s with near := { s.near with credits := addCredits s.near.credits n } } else .next s

end Sys2Proof.Machine
end

