-- ==== Sys2Proof/Machine/ModeCommands.lean ====
section
/-! DEFINITION. SET_MODE and LOCK_GUARDS (02), SET_FILL (06) and SET_TIMERS (05). -/

namespace Sys2Proof.Machine

/-- R25, the checks in their order; none where the command is accepted and the mode changes. -/
def modeRefusal (m : Mode) (s : State) : Option ResultCode :=
  if m = .bypass ∧ s.ctrl.guardLock = true then some .locked
  else if m ≠ .bypass ∧ s.ctrl.mode = .bypass ∧ s.port.slot = .pending then some .busy
  else if m = .active ∧ s.ring.config.state ≠ .valid then some .noRing
  else if m = s.ctrl.mode then some .ok
  else none

def setModeReply (code : Byte) (s : State) : Reply :=
  match modeOf code with
  | none => replyWith .badParam s
  | some m =>
    match modeRefusal m s with
    | some r => replyWith r s
    | none => replyWith .ok (enterMode m s)

/-- SET_MODE (R25). -/
def execSetMode (code : Byte) (tail : FrameTail) (s : State) : Host.Outcome State Fault Refusal :=
  .next (runFrame .setMode [code] tail (setModeReply code) s)

def lockGuardsReply (s : State) : Reply :=
  if s.ctrl.mode = .bypass then replyWith .wrongMode s
  else replyWith .ok { s with ctrl := { s.ctrl with guardLock := true } }

/-- LOCK_GUARDS (R30). -/
def execLockGuards (tail : FrameTail) (s : State) : Host.Outcome State Fault Refusal :=
  .next (runFrame .lockGuards [] tail lockGuardsReply s)

def setFillReply (bytes : Table Byte 16) (s : State) : Reply := replyWith .ok { s with fill := bytes }

/-- SET_FILL (R95). -/
def execSetFill (bytes : Table Byte 16) (tail : FrameTail) (s : State) : Host.Outcome State Fault Refusal :=
  .next (runFrame .setFill bytes.cells tail (setFillReply bytes) s)

def setTimersReply (readTimeout holdLimit : BitVec 16) (monitorSource : Byte) (s : State) : Reply :=
  if readTimeout = 0 ∨ holdLimit = 0 ∨ 63 < monitorSource.toNat then replyWith .badParam s
  else replyWith .ok { s with timers :=
    { readTimeout := readTimeout, holdLimit := holdLimit, monitorSource := monitorSource.setWidth 6 } }

/-- SET_TIMERS (R92). -/
def execSetTimers (readTimeout holdLimit : BitVec 16) (monitorSource : Byte) (tail : FrameTail) (s : State) :
    Host.Outcome State Fault Refusal :=
  .next (runFrame .setTimers (be16 readTimeout ++ be16 holdLimit ++ [monitorSource]) tail
    (setTimersReply readTimeout holdLimit monitorSource) s)

end Sys2Proof.Machine
end

