-- ==== Sys2Proof/Machine/RequestPath.lean ====
section
/-! DEFINITION. The request path: REQUEST_AT_HEAD, ORT_ENTRY_CREATE, REFUSAL_QUEUE_ADMIT (01 section 1.4, 04, 05 section 5.2, 06). -/

namespace Sys2Proof.Machine

/-- A request that is forwarded without an ORT entry: every write, a damaged request, a duplicate-key read, anything in BYPASS. -/
def untracked (p : RequestPacket) (counted : Bool) : Forwarding := { packet := p, counted := counted, tracked := false }

/-- R13: an undamaged request that bears the Monitor Source raises PROTOCOL. -/
def sourceClash (p : RequestPacket) (s : State) : State :=
  if p.source = s.timers.monitorSource then raise .protocol s else s

/-- R11: a damaged request at the head. -/
def damagedAtHead (p : RequestPacket) (s : State) : State :=
  setHead (.ready (untracked p true)) (countDamaged p.source s)

/-- R12: the response to a malformed read. -/
def malformedResponse (p : RequestPacket) : ResponsePacket := refusedResponse p.source p.tag p.attr 0 []

/-- R12: a malformed request at the head; its Refused count is made here, not when it leaves (R113). -/
def malformedAtHead (p : RequestPacket) (s : State) : State :=
  let s := raise .protocol (count .refused (count .malformed s))
  if p.kind = kindRd then setHead (.waitRefusal (malformedResponse p) false) s else popRequest s

/-- R81: a read whose key an entry holds. -/
def duplicateAtHead (p : RequestPacket) (s : State) : State :=
  setHead (.ready (untracked p true)) (raise .protocol (count .duplicateTag s))

/-- The bytes [addr, addr + len) and [base, base + size) have one in common. -/
def overlaps (addr len base size : Nat) : Bool := decide (addr < base + size) && decide (base < addr + len)

/-- R99: the write intrudes on the ring area or the Producer Word. -/
def intrudes (p : RequestPacket) (cfg : RingConfig) : Bool :=
  cfg.state == .valid &&
    (overlaps p.address.toNat p.length.toNat cfg.base.toNat (Config.slotBytes * cfg.slots) ||
      overlaps p.address.toNat p.length.toNat cfg.producerAddr.toNat 4)

/-- What a write hands to its resolution (R68). -/
def writeTransaction (p : RequestPacket) (cls : ClassNo) (refused : Bool) : Transaction :=
  { kind := .wr, source := p.source, tag := p.tag, cls := cls, attr := p.attr, address := p.address, length := p.length,
    outcome := if refused then .refusedEarly else .forwarded, latency := 0, data := p.data }

/-- Steps 1 and 3 to 6 for a write (R57, R64, R93). -/
def evaluateWrite (p : RequestPacket) (s : State) : State :=
  let cls := classOf p.source s
  let m := writeMatchSet cls p s
  let refused := meets m (blockRules s)
  let next := if refused then .drop else .forward (untracked (rewriteRequest p s) true)
  let o := resolve m (writeTransaction p cls refused) refused s
  captureRequest o.2 next o.1

/-- A well-formed write at the head: the intrusion check (R99), the drop under RingGuard (R100), or evaluation. -/
def writeAtHead (p : RequestPacket) (s : State) : State :=
  if intrudes p s.ring.config then
    let s := raise .ringIntrusion (count .intrusions s)
    if s.ring.config.guard then count .refused (popRequest s) else evaluateWrite p s
  else evaluateWrite p s

/-- The response made for a read refused early (R94). -/
def earlyRefusal (p : RequestPacket) (s : State) : ResponsePacket :=
  refusedResponse p.source p.tag p.attr p.length (fillData p.address p.length.toNat s)

/-- What an early-refused read hands to its resolution: no data (R68), Latency 0 (R94). -/
def refusedReadTransaction (p : RequestPacket) (cls : ClassNo) : Transaction :=
  { kind := .rd, source := p.source, tag := p.tag, cls := cls, attr := p.attr, address := p.address, length := p.length,
    outcome := .refusedEarly, latency := 0, data := [] }

/-- A well-formed read at the head that is no duplicate: refused early on its no-data candidates (R58, R59, R94), or on its way to an
ORT entry with its sets (R60). -/
def readAtHead (p : RequestPacket) (s : State) : State :=
  let cls := classOf p.source s
  let cand := candidates .rd cls p s
  let noData := cand &&& ~~~ dataRules s
  if meets noData (blockRules s) then
    let o := resolve noData (refusedReadTransaction p cls) true s
    captureRequest o.2 (.refuse (earlyRefusal p s)) o.1
  else
    setHead (.waitOrt { packet := rewriteRequest p s, cls := cls, pendingRules := cand &&& dataRules s, noData := noData,
                        bypassed := false }) s

/-- R10: a well-formed request at the head in ACTIVE or FROZEN. The key is searched before step 1 (R81). -/
def wellFormedAtHead (p : RequestPacket) (s : State) : State :=
  if p.kind = kindRd then
    if keyInOrt p.source p.tag s then duplicateAtHead p s else readAtHead p s
  else writeAtHead p s

/-- REQUEST_AT_HEAD (R9 to R13): the head request is handled under the mode in force, once. With no request that waits to be handled
nothing changes (log 4). -/
def execRequestAtHead (s : State) : Host.Outcome State Fault Refusal :=
  match s.near.head, s.near.buffer with
  | .fresh, b :: _ =>
    if s.ctrl.mode = .bypass then .next (setHead (.ready (untracked b.packet false)) s)
    else
      match b.cls with
      | .damaged => .next (damagedAtHead b.packet s)
      | .malformed => .next (malformedAtHead b.packet (sourceClash b.packet s))
      | .wellFormed => .next (wellFormedAtHead b.packet (sourceClash b.packet s))
  | _, _ => .next s

/-- The entry of R79 for the read `p` at the head. -/
def newEntry (p : RequestPacket) (w : WaitingRead) : OrtEntry :=
  { source := p.source, tag := p.tag, address := p.address, length := p.length, cls := w.cls, attr := p.attr,
    pendingRules := w.pendingRules, noData := w.noData, orphaned := w.bypassed, phase := .created, requestTime := none, limit := none,
    arrivalTime := none, earlyArrival := false }

/-- ORT_ENTRY_CREATE (R79, R80): the read at step 5 receives its entry once the table has room, and offers itself to the arbiter. With
no such read, or a full table, nothing changes (log 4). -/
def execOrtEntryCreate (s : State) : Host.Outcome State Fault Refusal :=
  match s.near.head, s.near.buffer with
  | .waitOrt w, b :: _ =>
    if s.ort.length < Config.ortSize then
      .next (setHead (.ready { packet := w.packet, counted := true, tracked := true })
        (addUses w.pendingRules { s with ort := s.ort ++ [newEntry b.packet w] }))
    else .next s
  | _, _ => .next s

/-- REFUSAL_QUEUE_ADMIT (R12, R94, R97, R113): the response of the refused read at the head enters the queue once it has room, and the
read leaves. With no such read, or a full queue, nothing changes (log 4). -/
def execRefusalQueueAdmit (s : State) : Host.Outcome State Fault Refusal :=
  match s.near.head with
  | .waitRefusal r counts =>
    if s.near.refusals.length < Config.refusalQueueSize then
      let s := popRequest { s with near := { s.near with refusals := s.near.refusals ++ [r] } }
      .next (if counts then count .refused s else s)
    else .next s
  | _ => .next s

end Sys2Proof.Machine
end

