-- ==== Sys2Proof/Machine/Resets.lean ====
section
/-! DEFINITION. The three resets and the coming up of the link: LINK_RESET, BOARD_RESET, POWER_ON, LINK_UP (01 section 1.7, 02 section
2.6). -/

namespace Sys2Proof.Machine

/-! ## Link reset -/

def headIsHeld : RequestHead → Bool
  | .held _ _ => true
  | _ => false

def responseIsHeld : ResponseHead → Bool
  | .held _ _ => true
  | _ => false

/-- The records a link reset discards: those of the Capture Queue, those waiting for room, and those of held items (R91, R106, R107,
R116, R137). -/
def discardedRecords (s : State) : Nat :=
  s.ring.queue.length + waitingRecords s + (headIsHeld s.near.head).toNat + (responseIsHeld s.far.head).toNat

/-- A PENDING configuration becomes INVALID (R125). -/
def abortConfig (c : RingConfig) : RingConfig := if c.state = .pending then { c with state := .invalid } else c

/-- A PENDING slot becomes DONE with ABORTED (R125, R180). -/
def abortSlot : LongSlot → LongSlot
  | .pending => .doneAborted
  | x => x

/-- R19: the traffic state of both ports is discarded, the credits become 0 and the arbiters take their reset values; Ring Loss takes
the discarded records (R137) and RING_LOSS is not raised; a PENDING SET_RING is aborted (R125); every Use Count becomes 0 (R47). -/
def clearLink (s : State) : State :=
  clearUses { s with
    linkUp := false
    near := State.clearedNear 0 s.near.sent
    far := State.clearedFar 0 s.far.sent
    ort := []
    ring := { s.ring with config := abortConfig s.ring.config, loss := satAdd s.ring.loss (discardedRecords s), queue := [],
                          writer := .idle }
    port := { s.port with slot := abortSlot s.port.slot } }

/-- LINK_RESET (R19, R31, R32): LRST_n becomes asserted. During power-on or board reset it is part of that reset and is not recorded;
while it is already asserted it is not a new assertion. The Management port is not affected: a frame in progress continues (R182). -/
def execLinkReset (s : State) : Host.Outcome State Fault Refusal :=
  if inHardReset s then .next { s with pins := { s.pins with link := true } }
  else if s.pins.link then .next s
  else
    let s := clearLink { s with pins := { s.pins with link := true } }
    .next { s with port := { s.port with lastReset := .link } }

/-! ## Board reset and power-on -/

/-- The part held in power-on or board reset: every value of State.reset, the link down and no credit granted, and what the arguments
give. A frame in progress is discarded and counts as no fault (R182). The outputs already made, the levels of the Management port's pins and
the queue of commands are outside the part. -/
def hardReset (pins : ResetInputs) (snapshot : Option Snapshot) (kind : ResetKind) (resetCount : Byte) (s : State) : State :=
  { State.reset with
    pins := pins
    linkUp := false
    near := State.clearedNear 0 s.near.sent
    far := State.clearedFar 0 s.far.sent
    seqr := State.clearedSequencer snapshot
    port := { State.reset.port with lastReset := kind, resetCount := resetCount,
                                      link := (closeFrame s.port).link, sdo := (closeFrame s.port).sdo }
    pending := s.pending }

/-- BOARD_RESET (R21, R31, R32): RST_n becomes asserted. The Fire Snapshot is kept (R161) and the Reset Count rises, saturating at 255.
During power-on reset the assertion is not recorded; while RST_n is already asserted it is not a new assertion. -/
def execBoardReset (s : State) : Host.Outcome State Fault Refusal :=
  if s.pins.power then .next { s with pins := { s.pins with board := true } }
  else if s.pins.board then .next s
  else .next (hardReset { s.pins with board := true } s.seqr.snapshot .board (satInc s.port.resetCount) s)

/-- POWER_ON (R21, R31, R32): PWR_OK goes low. Everything is reset, the Fire Snapshot too, and the Reset Count becomes 0. -/
def execPowerOn (s : State) : Host.Outcome State Fault Refusal :=
  .next (hardReset { s.pins with power := true } none .power 0 s)

/-! ## Leaving reset -/

/-- The reset inputs still asserted when those of `released` are deasserted. -/
def releasePins (pins released : ResetInputs) : ResetInputs :=
  ⟨pins.power && !released.power, pins.board && !released.board, pins.link && !released.link⟩

/-- Some reset input is asserted. -/
def anyAsserted (pins : ResetInputs) : Bool := pins.power || pins.board || pins.link

/-- R20: FRST_n is released and the link comes up: 8 credits granted on each side, none held. -/
def bringUp (s : State) : State :=
  { s with linkUp := true
           near := { s.near with granted := Config.requestBufferSize, credits := 0 }
           far := { s.far with granted := Config.responseBufferSize, credits := 0 } }

/-- LINK_UP (R20, R21, R32): the inputs named are deasserted, after the edges on the Management port's pins (logs 6, 8). Once no reset input is asserted, the link comes up;
clearing takes no time (log 7). A link that is up stays as it is. The Management port takes a frame only
from the next falling edge of SEL_n: if SEL_n is low here, it rises and falls first (R182). -/
def execLinkUp (release : Release) (s : State) : Host.Outcome State Fault Refusal :=
  let s := takeEdges release.before s
  let s := { s with pins := releasePins s.pins release.inputs }
  if anyAsserted s.pins || s.linkUp then .next s else .next (bringUp s)

end Sys2Proof.Machine
end

