-- ==== Sys2Proof/Machine/ResponsePath.lean ====
section
/-! DEFINITION. The response path, expiry and the Capture Queue's admission: RESPONSE_AT_HEAD, READ_TIMER_EXPIRY, CAPTURE_QUEUE_ADMIT
(01 section 1.5, 05 sections 5.4 to 5.6, 06 sections 6.3 and 6.6). -/

namespace Sys2Proof.Machine

/-- R2: an OK response that is not damaged and whose Length differs from the entry's. -/
def lengthMismatch (b : BufferedResponse) (e : OrtEntry) : Bool :=
  !b.damaged && b.packet.status == statusOk && b.packet.length != e.length

/-- R53: the response carries tested data for the entry. -/
def hasTestedData (b : BufferedResponse) (e : OrtEntry) : Bool :=
  !b.damaged && b.packet.status == statusOk && b.packet.length == e.length

/-- R61. -/
def responseMatchSet (b : BufferedResponse) (e : OrtEntry) (s : State) : RuleSet :=
  e.noData ||| (if hasTestedData b e then e.pendingRules &&& dataMatches b.packet.data s else 0)

/-- R14, R64: the record outcome of a read resolved by its response. -/
def responseOutcome (b : BufferedResponse) (e : OrtEntry) (refused : Bool) : RecordOutcome :=
  if refused then .refusedLate
  else if hasTestedData b e then .forwarded
  else if b.damaged || lengthMismatch b e then .responseDamaged
  else .memoryFault

/-- What a read resolved by its response hands on (R68, R84). -/
def responseTransaction (b : BufferedResponse) (e : OrtEntry) (refused : Bool) : Transaction :=
  { kind := .rd, source := e.source, tag := e.tag, cls := e.cls, attr := e.attr, address := e.address, length := e.length,
    outcome := responseOutcome b e refused, latency := latencyOf e, data := if hasTestedData b e then b.packet.data else [] }

/-- R98: the replacement of a late-refused read's memory response. -/
def lateRefusal (e : OrtEntry) (s : State) : ResponsePacket :=
  refusedResponse e.source e.tag e.attr e.length (fillData e.address e.length.toNat s)

/-- R14, R84, R98: a tracked entry resolved by the response at the head. -/
def resolveByResponse (b : BufferedResponse) (e : OrtEntry) (s : State) : State :=
  let m := responseMatchSet b e s
  let refused := meets m (blockRules s)
  let out := if refused then lateRefusal e s else restoreAttr e.attr b.packet
  let s := removeEntry (holdsKeyLive e.source e.tag) e s
  let s := if refused then count .refused s else s
  let o := resolve m (responseTransaction b e refused) refused s
  captureResponse o.2 out o.1

/-- R15: a response without an entry, in ACTIVE or FROZEN. -/
def strayAtHead (b : BufferedResponse) (s : State) : State :=
  let s := raise .stray (count .strayResponses s)
  setResponseHead (.ready b.packet) (if b.damaged then countDamaged b.packet.source s else s)

/-- R16, R88: a response that finds an orphaned entry removes it and has its Attr restored. -/
def orphanAtHead (b : BufferedResponse) (e : OrtEntry) (s : State) : State :=
  setResponseHead (.ready (restoreAttr e.attr b.packet)) (removeEntry (holdsKeyLive e.source e.tag) e s)

/-- R14, R40, R88: in ACTIVE and FROZEN a damaged response, or one with a length mismatch, is counted and signalled. -/
def countResponseDamage (b : BufferedResponse) (e : OrtEntry) (s : State) : State :=
  if b.damaged || lengthMismatch b e then countDamaged b.packet.source s else s

/-- RESPONSE_AT_HEAD (R14 to R16, R84, R88): the head response is handled under the mode in force, once. With no response that waits
to be handled nothing changes (log 4). -/
def execResponseAtHead (s : State) : Host.Outcome State Fault Refusal :=
  match s.far.head, s.far.buffer with
  | .fresh, b :: _ =>
    match findLive b.packet.source b.packet.tag s with
    | none => if s.ctrl.mode = .bypass then .next (setResponseHead (.ready b.packet) s) else .next (strayAtHead b s)
    | some e =>
      if s.ctrl.mode = .bypass then .next (orphanAtHead b e s)
      else if e.orphaned then .next (orphanAtHead b e (countResponseDamage b e s))
      else .next (resolveByResponse b e (countResponseDamage b e s))
  | _, _ => .next s

/-! ## Expiry (R85, R86) -/

/-- The entry's timer runs and has run out. -/
def timerDue (now : Ticks) (e : OrtEntry) : Bool :=
  match e.phase, e.requestTime, e.limit with
  | .timing, some start, some limit => hasRunOut now start limit.toNat
  | _, _, _ => false

/-- What an expired read hands to its resolution (R85). -/
def expiryTransaction (e : OrtEntry) : Transaction :=
  { kind := .rd, source := e.source, tag := e.tag, cls := e.cls, attr := e.attr, address := e.address, length := e.length,
    outcome := .expired, latency := e.limit.getD 0, data := [] }

/-- The entry passes to EXPIRED with its record; its pending set is empty and leaves the Use Counts (R85, R86). -/
def keepExpired (e : OrtEntry) (r : Record) (s : State) : State :=
  dropUses e.pendingRules (changeEntry e.source e.tag (fun x => { x with phase := .expired r, pendingRules := 0 }) s)

/-- R86: the record of an expiry is never held. -/
def placeExpiry (e : OrtEntry) (r : Option Record) (s : State) : State :=
  let leave := removeEntry (holdsKeyLive e.source e.tag) e
  match r with
  | none => leave s
  | some r =>
    match recordFate s with
    | .reserve => if queueOpen s then leave (enqueue r s) else keepExpired e r s
    | .hold => leave (loseRecord s)
    | .drop => leave (dropRecord s)

/-- R85: a tracked read resolved by expiry. It is never refused. -/
def expire (e : OrtEntry) (s : State) : State :=
  let s := if s.ctrl.mode = .bypass then s else raise .readExpired (count .readExpiries s)
  let o := resolve e.noData (expiryTransaction e) false s
  placeExpiry e o.2 o.1

/-- READ_TIMER_EXPIRY (R85, R88): the timer of the entry with the key runs out. An orphaned entry is removed silently. With no such
entry in TIMING whose timer has run out nothing changes (logs 4, 5). -/
def execReadTimerExpiry (src : SourceId) (tag : Tag) (s : State) : Host.Outcome State Fault Refusal :=
  match findLive src tag s with
  | none => .next s
  | some e =>
    if timerDue s.time e then
      if e.orphaned then .next (removeEntry (holdsKeyLive src tag) e s) else .next (expire e s)
    else .next s

/-! ## Room in the Capture Queue (R134) -/

/-- Where a record waits for room (R127). -/
inductive Waiter where
  | request (r : Record) (next : AfterCapture)
  | response (r : Record) (p : ResponsePacket)
  | entry (r : Record) (e : OrtEntry)
deriving DecidableEq, Repr

def waiterSeq : Waiter → BitVec 32
  | .request r _ => r.seq
  | .response r _ => r.seq
  | .entry r _ => r.seq

def requestWaiter (s : State) : List Waiter :=
  match s.near.head with
  | .waitRoom r next => [.request r next]
  | _ => []

def responseWaiter (s : State) : List Waiter :=
  match s.far.head with
  | .waitRoom r p => [.response r p]
  | _ => []

def entryWaiter (e : OrtEntry) : Option Waiter :=
  match e.phase with
  | .expired r => some (.entry r e)
  | _ => none

/-- Every record that waits for room. -/
def waiters (s : State) : List Waiter := requestWaiter s ++ responseWaiter s ++ s.ort.filterMap entryWaiter

/-- The one of the waiting records with the lowest Seq (R134; log 12 for the wrap of Seq). -/
def firstWaiter (next : BitVec 32) : List Waiter → Option Waiter
  | [] => none
  | w :: ws =>
    match firstWaiter next ws with
    | none => some w
    | some v => if createdBefore next (waiterSeq v) (waiterSeq w) then some v else some w

def holdsKeyExpired (src : SourceId) (tag : Tag) (e : OrtEntry) : Bool := holdsKey src tag e && isExpired e

/-- The record enters the queue and its transaction continues, or its entry is removed (R107, R134). -/
def admitRecord (w : Waiter) (s : State) : State :=
  match w with
  | .request r next => continueRequest next (enqueue r s)
  | .response r p => setResponseHead (.ready p) (enqueue r s)
  | .entry r e => removeEntry (holdsKeyExpired e.source e.tag) e (enqueue r s)

/-- CAPTURE_QUEUE_ADMIT (R134): the waiting record with the lowest Seq enters the queue. With a full queue, or no record that waits,
nothing changes (log 4). -/
def execCaptureQueueAdmit (s : State) : Host.Outcome State Fault Refusal :=
  if s.ring.queue.length < Config.captureQueueSize then
    match firstWaiter s.ring.seq (waiters s) with
    | some w => .next (admitRecord w s)
    | none => .next s
  else .next s

end Sys2Proof.Machine
end

