-- ==== Sys2Proof/Machine/RingCommands.lean ====
section
/-! DEFINITION. SET_RING and RING_STATUS (08 sections 8.1 and 8.6). -/

namespace Sys2Proof.Machine

/-- R123 step 3: records of the configuration in force are still to be written, or a SET_RING is PENDING. -/
def ringBusy (s : State) : Bool :=
  s.port.slot == .pending || !s.ring.queue.isEmpty || decide (0 < waitingRecords s) || s.ring.writer != .idle

/-- R124: the configuration is loaded as PENDING, P and C become 0, and the writer presents the Producer Word write of value 0. -/
def loadRing (cfg : RingConfig) (s : State) : State :=
  let s := { s with ring := { s.ring with config := cfg, p := 0, c := 0, overrun := false, overrunSeen := false } }
  { s with ring := { s.ring with writer := .producer (producerWrite 0 s) true }, port := { s.port with slot := .pending } }

def setRingReply (p : RingParams) (s : State) : Reply :=
  match ringConfigOf p with
  | none => replyWith .badParam s
  | some cfg =>
    if s.ctrl.mode ≠ .bypass then replyWith .wrongMode s
    else if ringBusy s then replyWith .busy s
    else replyWith .pending (loadRing cfg s)

/-- SET_RING (R123, R124). -/
def execSetRing (p : RingParams) (tail : FrameTail) (s : State) : Host.Outcome State Fault Refusal :=
  .next (runFrame .setRing (ringParamBytes p) tail (setRingReply p) s)

/-- The RING_STATUS response in the order of 12.3. -/
def ringStatusBytes (s : State) : List Byte :=
  [configStateByte s.ring.config.state] ++ be16 s.ring.p ++ be16 s.ring.c ++ be32 s.ring.seq ++
  be16 (BitVec.ofNat 16 (reserved s)) ++ [flagByte s.ring.overrun] ++ be32 s.ring.loss

def ringStatusReply (s : State) : Reply :=
  ⟨.ok, ringStatusBytes s, { s with ring := { s.ring with overrunSeen := s.ring.overrunSeen || s.ring.overrun } }⟩

/-- RING_STATUS (R142). -/
def execRingStatus (tail : FrameTail) (s : State) : Host.Outcome State Fault Refusal :=
  .next (runFrame .ringStatus [] tail ringStatusReply s)

end Sys2Proof.Machine
end

