-- ==== Sys2Proof/Machine/RuleCommands.lean ====
section
/-! DEFINITION. LOAD_RULE, ENABLE_RULE, DISABLE_RULE, CLEAR_RULE and READ_RULE (04 section 4.7), READ_COUNTERS and READ_GLOBALS
(07 section 7.5). -/

namespace Sys2Proof.Machine

def setRule (i : Nat) (r : Rule) (s : State) : State := { s with rules := s.rules.set i r }

/-- A rule's six counters become 0. -/
def zeroCounters (i : Nat) (s : State) : State :=
  { s with counters := { s.counters with perRule := s.counters.perRule.set i RuleCounters.zero } }

/-- The Guard Lock is set and the rule is ENABLED with BLOCK among its Actions (R70, R72, R73). -/
def guarded (r : Rule) (s : State) : Bool := s.ctrl.guardLock && r.state == .enabled && r.defn.actions.block

def loadRuleReply (p : RuleParams) (s : State) : Reply :=
  match ruleDefOf p with
  | none => replyWith .badParam s
  | some d =>
    let i := p.index.toNat
    let r := ruleAt s i
    if 31 < i then replyWith .badParam s
    else if guarded r s then replyWith .locked s
    else if 0 < r.useCount then replyWith .ruleBusy s
    else if r.state = .enabled then replyWith .notDisabled s
    else replyWith .ok (zeroCounters i (setRule i ⟨.disabled, d, 0⟩ s))

/-- LOAD_RULE (R69, R70). -/
def execLoadRule (p : RuleParams) (tail : FrameTail) (s : State) : Host.Outcome State Fault Refusal :=
  .next (runFrame .loadRule (ruleParamBytes p) tail (loadRuleReply p) s)

def enableRuleReply (index : Byte) (s : State) : Reply :=
  let i := index.toNat
  let r := ruleAt s i
  if 31 < i then replyWith .badParam s
  else
    match r.state with
    | .empty => replyWith .emptyRule s
    | .disabled => replyWith .ok (setRule i { r with state := .enabled } s)
    | .enabled => replyWith .ok s

/-- ENABLE_RULE (R71). -/
def execEnableRule (index : Byte) (tail : FrameTail) (s : State) : Host.Outcome State Fault Refusal :=
  .next (runFrame .enableRule [index] tail (enableRuleReply index) s)

/-- The rule leaves the sets of an entry (R72). -/
def entryWithout (i : Nat) (e : OrtEntry) : OrtEntry :=
  { e with pendingRules := withoutRule e.pendingRules i, noData := withoutRule e.noData i }

/-- The rule leaves the sets carried by a read that waits for an entry (R60, R72). -/
def headWithout (i : Nat) : RequestHead → RequestHead
  | .waitOrt w => .waitOrt { w with pendingRules := withoutRule w.pendingRules i, noData := withoutRule w.noData i }
  | h => h

/-- R72: the rule becomes DISABLED, leaves every set, and its Use Count becomes 0. -/
def disableRule (i : Nat) (s : State) : State :=
  setRule i { ruleAt s i with state := .disabled, useCount := 0 }
    { s with ort := s.ort.map (entryWithout i), near := { s.near with head := headWithout i s.near.head } }

def disableRuleReply (index : Byte) (s : State) : Reply :=
  let i := index.toNat
  let r := ruleAt s i
  if 31 < i then replyWith .badParam s
  else
    match r.state with
    | .empty => replyWith .emptyRule s
    | .disabled => replyWith .ok s
    | .enabled => if guarded r s then replyWith .locked s else replyWith .ok (disableRule i s)

/-- DISABLE_RULE (R72). -/
def execDisableRule (index : Byte) (tail : FrameTail) (s : State) : Host.Outcome State Fault Refusal :=
  .next (runFrame .disableRule [index] tail (disableRuleReply index) s)

def clearRuleReply (index : Byte) (s : State) : Reply :=
  let i := index.toNat
  let r := ruleAt s i
  if 31 < i then replyWith .badParam s
  else
    match r.state with
    | .empty => replyWith .emptyRule s
    | .disabled => replyWith .ok (zeroCounters i (setRule i Rule.empty s))
    | .enabled => if guarded r s then replyWith .locked s else replyWith .notDisabled s

/-- CLEAR_RULE (R73). -/
def execClearRule (index : Byte) (tail : FrameTail) (s : State) : Host.Outcome State Fault Refusal :=
  .next (runFrame .clearRule [index] tail (clearRuleReply index) s)

def readRuleReply (index : Byte) (s : State) : Reply :=
  let i := index.toNat
  let r := ruleAt s i
  if 31 < i then replyWith .badParam s
  else if r.state = .empty then replyWith .emptyRule s
  else ⟨.ok, ruleBytes r, s⟩

/-- READ_RULE (R74). -/
def execReadRule (index : Byte) (tail : FrameTail) (s : State) : Host.Outcome State Fault Refusal :=
  .next (runFrame .readRule [index] tail (readRuleReply index) s)

def countersAt (s : State) (i : Nat) : RuleCounters := s.counters.perRule.get i RuleCounters.zero

def readCountersReply (index : Byte) (s : State) : Reply :=
  let i := index.toNat
  if 31 < i then replyWith .badParam s else ⟨.ok, ruleCounterBytes (countersAt s i), zeroCounters i s⟩

/-- READ_COUNTERS (R118). -/
def execReadCounters (index : Byte) (tail : FrameTail) (s : State) : Host.Outcome State Fault Refusal :=
  .next (runFrame .readCounters [index] tail (readCountersReply index) s)

def readGlobalsReply (s : State) : Reply :=
  ⟨.ok, globalBytes s.counters.globals s.ring.loss,
   { s with counters := { s.counters with globals := Globals.zero }, ring := { s.ring with loss := 0 } }⟩

/-- READ_GLOBALS (R119). -/
def execReadGlobals (tail : FrameTail) (s : State) : Host.Outcome State Fault Refusal :=
  .next (runFrame .readGlobals [] tail readGlobalsReply s)

end Sys2Proof.Machine
end

