-- ==== Sys2Proof/Machine/SequencerCommands.lean ====
section
/-! DEFINITION. LOAD_STAGE, SET_SEQUENCER, SEQ_START, SEQ_STOP, SEQ_STATUS, READ_SNAPSHOT and CLEAR_SNAPSHOT (09). -/

namespace Sys2Proof.Machine

/-- The state is RUN or POST. -/
def seqBusy : SeqState → Bool
  | .run _ _ _ => true
  | .post _ => true
  | .off => false
  | .fired => false

def loadStageReply (index : Byte) (rules : RuleSet) (count : BitVec 16) (window : BitVec 32) (onExpiry : Byte) (s : State) : Reply :=
  match stageOf rules count window onExpiry with
  | none => replyWith .badParam s
  | some x =>
    if 3 < index.toNat then replyWith .badParam s
    else if seqBusy s.seqr.state then replyWith .busy s
    else replyWith .ok { s with seqr := { s.seqr with stages := s.seqr.stages.set index.toNat x } }

/-- LOAD_STAGE (R148). -/
def execLoadStage (index : Byte) (rules : RuleSet) (count : BitVec 16) (window : BitVec 32) (onExpiry : Byte) (tail : FrameTail)
    (s : State) : Host.Outcome State Fault Refusal :=
  .next (runFrame .loadStage ([index] ++ be32 rules ++ be16 count ++ be32 window ++ [onExpiry]) tail
    (loadStageReply index rules count window onExpiry) s)

def setSequencerReply (stagesInUse : Byte) (abortRules : RuleSet) (postCount : BitVec 16) (fireActions : Byte) (s : State) : Reply :=
  match settingsOf stagesInUse abortRules postCount fireActions with
  | none => replyWith .badParam s
  | some x =>
    if seqBusy s.seqr.state then replyWith .busy s else replyWith .ok { s with seqr := { s.seqr with settings := x } }

/-- SET_SEQUENCER (R149). -/
def execSetSequencer (stagesInUse : Byte) (abortRules : RuleSet) (postCount : BitVec 16) (fireActions : Byte) (tail : FrameTail)
    (s : State) : Host.Outcome State Fault Refusal :=
  .next (runFrame .setSequencer ([stagesInUse] ++ be32 abortRules ++ be16 postCount ++ [fireActions]) tail
    (setSequencerReply stagesInUse abortRules postCount fireActions) s)

/-- R151 step 2: a stage in use has Stage Rules {}. -/
def stageMissing (q : Sequencer) : Bool := (List.range q.settings.stagesInUse).any fun k => (stageAt q k).rules == 0

def seqStartReply (s : State) : Reply :=
  if seqBusy s.seqr.state then replyWith .busy s
  else if stageMissing s.seqr then replyWith .badParam s
  else replyWith .ok (setSeqState (enterStage 0 s.time s.seqr) s)

/-- SEQ_START (R151). -/
def execSeqStart (tail : FrameTail) (s : State) : Host.Outcome State Fault Refusal :=
  .next (runFrame .seqStart [] tail seqStartReply s)

def seqStopReply (s : State) : Reply := replyWith .ok (setSeqState .off s)

/-- SEQ_STOP (R152). -/
def execSeqStop (tail : FrameTail) (s : State) : Host.Outcome State Fault Refusal :=
  .next (runFrame .seqStop [] tail seqStopReply s)

def seqStatusReply (s : State) : Reply := ⟨.ok, seqStatusBytes s.seqr.state, s⟩

/-- SEQ_STATUS (R153). -/
def execSeqStatus (tail : FrameTail) (s : State) : Host.Outcome State Fault Refusal :=
  .next (runFrame .seqStatus [] tail seqStatusReply s)

def readSnapshotReply (s : State) : Reply := ⟨.ok, snapshotBytes s.seqr.snapshot, s⟩

/-- READ_SNAPSHOT (R163). -/
def execReadSnapshot (tail : FrameTail) (s : State) : Host.Outcome State Fault Refusal :=
  .next (runFrame .readSnapshot [] tail readSnapshotReply s)

def clearSnapshotReply (s : State) : Reply := replyWith .ok { s with seqr := { s.seqr with snapshot := none } }

/-- CLEAR_SNAPSHOT (R163). -/
def execClearSnapshot (tail : FrameTail) (s : State) : Host.Outcome State Fault Refusal :=
  .next (runFrame .clearSnapshot [] tail clearSnapshotReply s)

end Sys2Proof.Machine
end

