-- ==== Sys2Proof/Machine/SourceCommands.lean ====
section
/-! DEFINITION. LOAD_SOURCE, CLEAR_SOURCE and READ_SOURCE (03 section 3.5). -/

namespace Sys2Proof.Machine

def sourceAt (s : State) (i : Nat) : SourceEntry := s.sources.get i SourceEntry.empty

def setSource (i : Nat) (e : SourceEntry) (s : State) : State := { s with sources := s.sources.set i e }

/-- R41 step 3: an entry at another index is VALID and holds the Source ID. -/
def listedElsewhere (i : Nat) (src : SourceId) (s : State) : Bool :=
  (List.range 16).any fun j => j != i && (sourceAt s j).valid && (sourceAt s j).sourceId == src

def loadSourceReply (index sourceId cls flags : Byte) (s : State) : Reply :=
  if 15 < index.toNat ∨ 63 < sourceId.toNat ∨ cls = 0 ∨ 7 < cls.toNat then replyWith .badParam s
  else if s.ctrl.guardLock then replyWith .locked s
  else if listedElsewhere index.toNat (sourceId.setWidth 6) s then replyWith .duplicateSource s
  else replyWith .ok (setSource index.toNat
    { valid := true, sourceId := sourceId.setWidth 6, cls := cls.setWidth 3, forceOrdered := flags.getLsbD 0,
      demote := flags.getLsbD 1, damaged := 0 } s)

/-- LOAD_SOURCE (R41). -/
def execLoadSource (index sourceId cls flags : Byte) (tail : FrameTail) (s : State) : Host.Outcome State Fault Refusal :=
  .next (runFrame .loadSource [index, sourceId, cls, flags] tail (loadSourceReply index sourceId cls flags) s)

def clearSourceReply (index : Byte) (s : State) : Reply :=
  if 15 < index.toNat then replyWith .badParam s
  else if s.ctrl.guardLock then replyWith .locked s
  else replyWith .ok (setSource index.toNat SourceEntry.empty s)

/-- CLEAR_SOURCE (R42). -/
def execClearSource (index : Byte) (tail : FrameTail) (s : State) : Host.Outcome State Fault Refusal :=
  .next (runFrame .clearSource [index] tail (clearSourceReply index) s)

def readSourceReply (index clear : Byte) (s : State) : Reply :=
  match flagOf clear with
  | none => replyWith .badParam s
  | some c =>
    if 15 < index.toNat then replyWith .badParam s
    else
      let e := sourceAt s index.toNat
      ⟨.ok, sourceBytes e, if c then setSource index.toNat { e with damaged := 0 } s else s⟩

/-- READ_SOURCE (R43). -/
def execReadSource (index clear : Byte) (tail : FrameTail) (s : State) : Host.Outcome State Fault Refusal :=
  .next (runFrame .readSource [index, clear] tail (readSourceReply index clear) s)

end Sys2Proof.Machine
end

