-- ==== Sys2Proof/Machine/Timing.lean ====
section
/-! DEFINITION. Time and what runs out: TIME_TICK, HOLD_EXPIRY, STAGE_WINDOW_EXPIRY, MARK_PULSE_END; and FREEZE_REQUEST (R24, R29, R104,
R156, R159). READ_TIMER_EXPIRY stands in ResponsePath.lean. -/

namespace Sys2Proof.Machine

/-- TIME_TICK (R24): Time advances by one. It stands while the part is held in power-on or board reset, for it starts from the
release (log 17). -/
def execTimeTick (s : State) : Host.Outcome State Fault Refusal :=
  if inHardReset s then .next s else .next { s with time := s.time + 1 }

/-- R104: the events and the count of a hold that reaches its Hold Limit; the record's loss is counted by the release itself. -/
def holdRanOut (s : State) : State := raise .holdExpired (count .holdExpiries s)

/-- The hold of one side, if it holds an item (R101). -/
def holdOf (side : HoldSide) (s : State) : Option Hold :=
  match side with
  | .request => match s.near.head with | .held h _ => some h | _ => none
  | .response => match s.far.head with | .held h _ => some h | _ => none

/-- HOLD_EXPIRY (R104): the held item of a side reaches its Hold Limit and goes on without its record. With no item held on that side,
or its Hold Limit not reached, nothing changes (logs 4, 5). -/
def execHoldExpiry (side : HoldSide) (s : State) : Host.Outcome State Fault Refusal :=
  match holdOf side s with
  | none => .next s
  | some h =>
    if hasRunOut s.time h.start h.limit.toNat then
      match side with
      | .request => .next (abandonHeldRequest (holdRanOut s))
      | .response => .next (abandonHeldResponse (holdRanOut s))
    else .next s

/-- STAGE_WINDOW_EXPIRY (R156): the window of the stage the sequencer waits in runs out. With no window that has run out nothing
changes (logs 4, 5). -/
def execStageWindowExpiry (s : State) : Host.Outcome State Fault Refusal :=
  match s.seqr.state with
  | .run k _ (some start) =>
    if hasRunOut s.time start (stageAt s.seqr k).window.toNat then
      match (stageAt s.seqr k).onExpiry with
      | .restart => .next (setSeqState (enterStage 0 s.time s.seqr) s)
      | .stop => .next (setSeqState .off s)
    else .next s
  | _ => .next s

/-- MARK_PULSE_END (R159): MARK returns low at the second tick after the latest firing that drove it. With MARK low, or earlier,
nothing changes (logs 4, 5). -/
def execMarkPulseEnd (s : State) : Host.Outcome State Fault Refusal :=
  match s.seqr.markFiredAt with
  | some start => if hasRunOut s.time start 2 then .next { s with seqr := { s.seqr with markFiredAt := none } } else .next s
  | none => .next s

/-- FREEZE_REQUEST (R29): a freeze request is taken at Mode control. With none in flight nothing changes (log 4). A held transaction is
released without its record (R27, R106), the one whose own record completed the post count or fired included: R160 has that one keep its
record, and following R27 there is the model's choice (log 25). -/
def execFreezeRequest (s : State) : Host.Outcome State Fault Refusal :=
  if s.ctrl.freezeRequests = 0 then .next s
  else
    let s := { s with ctrl := { s.ctrl with freezeRequests := s.ctrl.freezeRequests - 1 } }
    if s.ctrl.mode = .active then .next (enterFrozen s) else .next s

end Sys2Proof.Machine
end

