-- ==== Sys2Proof/Machine/Dispatch.lean ====
section
/-! DEFINITION. One arm for each command. -/

namespace Sys2Proof.Machine

def exec (i : Instr) (s : State) : Host.Outcome State Fault Refusal :=
  match i with
  | .requestArrival p => Sys2Proof.Machine.execRequestArrival p s
  | .responseArrival p => Sys2Proof.Machine.execResponseArrival p s
  | .requestAtHead => Sys2Proof.Machine.execRequestAtHead s
  | .ortEntryCreate => Sys2Proof.Machine.execOrtEntryCreate s
  | .refusalQueueAdmit => Sys2Proof.Machine.execRefusalQueueAdmit s
  | .responseAtHead => Sys2Proof.Machine.execResponseAtHead s
  | .captureQueueAdmit => Sys2Proof.Machine.execCaptureQueueAdmit s
  | .farPortGrant => Sys2Proof.Machine.execFarPortGrant s
  | .captureWriterStart => Sys2Proof.Machine.execCaptureWriterStart s
  | .nearPortResponseGrant => Sys2Proof.Machine.execNearPortResponseGrant s
  | .farRequestCredit n => Sys2Proof.Machine.execFarRequestCredit n s
  | .nearResponseCredit n => Sys2Proof.Machine.execNearResponseCredit n s
  | .readTimerExpiry src tag => Sys2Proof.Machine.execReadTimerExpiry src tag s
  | .holdExpiry side => Sys2Proof.Machine.execHoldExpiry side s
  | .stageWindowExpiry => Sys2Proof.Machine.execStageWindowExpiry s
  | .markPulseEnd => Sys2Proof.Machine.execMarkPulseEnd s
  | .timeTick => Sys2Proof.Machine.execTimeTick s
  | .freezeRequest => Sys2Proof.Machine.execFreezeRequest s
  | .linkReset => Sys2Proof.Machine.execLinkReset s
  | .boardReset => Sys2Proof.Machine.execBoardReset s
  | .powerOn => Sys2Proof.Machine.execPowerOn s
  | .linkUp release => Sys2Proof.Machine.execLinkUp release s
  | .frameAbort bits after => Sys2Proof.Machine.execFrameAbort bits after s
  | .badCommand code after => Sys2Proof.Machine.execBadCommand code after s
  | .status tail => Sys2Proof.Machine.execStatus tail s
  | .setMode code tail => Sys2Proof.Machine.execSetMode code tail s
  | .lockGuards tail => Sys2Proof.Machine.execLockGuards tail s
  | .loadSource index src cls flags tail => Sys2Proof.Machine.execLoadSource index src cls flags tail s
  | .clearSource index tail => Sys2Proof.Machine.execClearSource index tail s
  | .readSource index clear tail => Sys2Proof.Machine.execReadSource index clear tail s
  | .loadRule p tail => Sys2Proof.Machine.execLoadRule p tail s
  | .enableRule index tail => Sys2Proof.Machine.execEnableRule index tail s
  | .disableRule index tail => Sys2Proof.Machine.execDisableRule index tail s
  | .clearRule index tail => Sys2Proof.Machine.execClearRule index tail s
  | .readRule index tail => Sys2Proof.Machine.execReadRule index tail s
  | .readCounters index tail => Sys2Proof.Machine.execReadCounters index tail s
  | .readGlobals tail => Sys2Proof.Machine.execReadGlobals tail s
  | .setRing p tail => Sys2Proof.Machine.execSetRing p tail s
  | .ringStatus tail => Sys2Proof.Machine.execRingStatus tail s
  | .setFill bytes tail => Sys2Proof.Machine.execSetFill bytes tail s
  | .setTimers rt hl ms tail => Sys2Proof.Machine.execSetTimers rt hl ms tail s
  | .loadStage index rules count window oe tail => Sys2Proof.Machine.execLoadStage index rules count window oe tail s
  | .setSequencer stages abort post fa tail => Sys2Proof.Machine.execSetSequencer stages abort post fa tail s
  | .seqStart tail => Sys2Proof.Machine.execSeqStart tail s
  | .seqStop tail => Sys2Proof.Machine.execSeqStop tail s
  | .seqStatus tail => Sys2Proof.Machine.execSeqStatus tail s
  | .readSnapshot tail => Sys2Proof.Machine.execReadSnapshot tail s
  | .clearSnapshot tail => Sys2Proof.Machine.execClearSnapshot tail s
  | .takeEvent tail => Sys2Proof.Machine.execTakeEvent tail s
  | .endEvent tail => Sys2Proof.Machine.execEndEvent tail s
  | .setEventEnable l0 l1 l2 l3 ge tail => Sys2Proof.Machine.execSetEventEnable l0 l1 l2 l3 ge tail s

end Sys2Proof.Machine
end

