-- ==== Sys2Proof/WellFormed.lean ====
section
/-! DEFINITION. Which commands can reach the part at all: the checks on operands that their types do not make. -/

namespace Sys2Proof

/-- A grant or return carries between 1 and 16 credits (R6, R7). A FRAME_ABORT's bits are less than a whole known command and hold no
unknown command byte (R178, R179). A BAD_COMMAND's code names none of the 27 commands (R178). Every other operand is any value of its type. -/
def Instr.wellFormed : Instr → Bool
  | .farRequestCredit n => 1 ≤ n && n ≤ Config.creditLimit
  | .nearResponseCredit n => 1 ≤ n && n ≤ Config.creditLimit
  | .frameAbort bits _ => Machine.reception bits == .incomplete
  | .badCommand code _ => !Machine.knownCode code
  | .requestArrival _ | .responseArrival _ | .requestAtHead | .ortEntryCreate | .refusalQueueAdmit | .responseAtHead
  | .captureQueueAdmit | .farPortGrant | .captureWriterStart | .nearPortResponseGrant | .readTimerExpiry _ _ | .holdExpiry _
  | .stageWindowExpiry | .markPulseEnd | .timeTick | .freezeRequest | .linkReset | .boardReset | .powerOn | .linkUp _
  | .status _ | .setMode _ _ | .lockGuards _ | .loadSource _ _ _ _ _ | .clearSource _ _ | .readSource _ _ _ | .loadRule _ _
  | .enableRule _ _ | .disableRule _ _ | .clearRule _ _ | .readRule _ _ | .readCounters _ _ | .readGlobals _ | .setRing _ _
  | .ringStatus _ | .setFill _ _ | .setTimers _ _ _ _ | .loadStage _ _ _ _ _ _ | .setSequencer _ _ _ _ _ | .seqStart _
  | .seqStop _ | .seqStatus _ | .readSnapshot _ | .clearSnapshot _ | .takeEvent _ | .endEvent _ | .setEventEnable _ _ _ _ _ _ => true

end Sys2Proof
end

