-- ==== Sys2Proof/Safety.lean ====
section
/-! DEFINITION. The terms the claims use: what a command answers, and the invariants that say which states are sound. -/

namespace Sys2Proof.Machine

/-- The outcome is a next state that satisfies `P`. -/
def Answers (o : Host.Outcome State Fault Refusal) (P : State → Prop) : Prop := ∃ t, o = .next t ∧ P t

/-- If the outcome is a next state, it satisfies `P`. -/
def IfNext (o : Host.Outcome State Fault Refusal) (P : State → Prop) : Prop := ∀ t, o = .next t → P t

/-- Every step from a state with `P` that answers a next state answers one with `P`. -/
def StepKeeps (P : State → Prop) : Prop := ∀ s, P s → IfNext (step s) P

/-! ## Buffers and credits (01 sections 1.3 and 1.7, R77, R97, R134) -/

/-- A position other than `fresh` belongs to a request that stands in the buffer. -/
def headBacked (s : State) : Prop := s.near.buffer = [] → s.near.head = .fresh

def responseBacked (s : State) : Prop := s.far.buffer = [] → s.far.head = .fresh

/-- While the link is up each side has been granted one credit for each free entry; while it is in reset nothing is buffered, granted
or held. -/
structure CreditsBalance (s : State) : Prop where
  upNear   : s.linkUp = true → s.near.granted + s.near.buffer.length = Config.requestBufferSize
  upFar    : s.linkUp = true → s.far.granted + s.far.buffer.length = Config.responseBufferSize
  downNear : s.linkUp = false → s.near.buffer = [] ∧ s.near.granted = 0 ∧ s.near.credits = 0 ∧ s.near.refusals = []
  downFar  : s.linkUp = false → s.far.buffer = [] ∧ s.far.granted = 0 ∧ s.far.credits = 0

/-- Every buffer within its size and every count of credits within its limit. -/
structure Bounded (s : State) : Prop where
  near        : headBacked s
  far         : responseBacked s
  balance     : CreditsBalance s
  nearCredits : s.near.credits ≤ Config.creditLimit
  farCredits  : s.far.credits ≤ Config.creditLimit
  refusals    : s.near.refusals.length ≤ Config.refusalQueueSize
  queue       : s.ring.queue.length ≤ Config.captureQueueSize
  ort         : s.ort.length ≤ Config.ortSize

/-! ## Read tracking (R48, R49, R77, R80, R81, R86) -/

/-- The key of the request at the head, while that request waits for its ORT entry, is held by no entry (R81). -/
def waitingKeyFree (s : State) : Prop :=
  match s.near.head, s.near.buffer with
  | .waitOrt _, b :: _ => keyInOrt b.packet.source b.packet.tag s = false
  | _, _ => True

/-- R77: no two entries hold the same key; and the key of a read that waits for an entry is free. -/
structure KeysUnique (s : State) : Prop where
  backed  : headBacked s
  unique  : s.ort.Pairwise fun a b => ¬ (a.source = b.source ∧ a.tag = b.tag)
  waiting : waitingKeyFree s

/-- The rule is in one of the sets that the head request carries while it waits for an entry. -/
def headCarries (h : RequestHead) (i : Nat) : Bool :=
  match h with
  | .waitOrt w => hasRule w.pendingRules i || hasRule w.noData i
  | _ => false

/-- R48, R49: each Use Count is the number of entries whose pending set contains the rule, every set carries ENABLED rules only, and an
entry in EXPIRED has no pending rule. -/
structure UseCountsExact (s : State) : Prop where
  keys    : KeysUnique s
  expired : ∀ e ∈ s.ort, isExpired e = true → e.pendingRules = 0
  enabled : ∀ i, i < 32 → (ruleAt s i).state ≠ .enabled →
    headCarries s.near.head i = false ∧ ∀ e ∈ s.ort, hasRule e.pendingRules i = false ∧ hasRule e.noData i = false
  exact   : ∀ i, i < 32 → (ruleAt s i).useCount = s.ort.countP fun e => hasRule e.pendingRules i

/-! ## The ring (R127, R128, R135, R136) -/

/-- The Capture Writer is writing a record of the queue. -/
def writesRecord : Writer → Bool
  | .idle => false
  | .first _ => true
  | .second _ => true
  | .producer _ forRing => !forRing

/-- R127: reserved lies between 0 and Slots, and what keeps it there. -/
structure RingSound (s : State) : Prop where
  keys     : KeysUnique s
  slots    : s.ring.config.slots ≤ 4096
  reserved : reserved s ≤ s.ring.config.slots
  writing  : writesRecord s.ring.writer = true → s.ring.queue ≠ []

/-- The Seq of every record of the Capture Queue, in its order. -/
def queuedSeqs (s : State) : List (BitVec 32) := s.ring.queue.map fun q => q.record.seq

/-- The Seq of every record that waits for room. -/
def waitingSeqs (s : State) : List (BitVec 32) := (waiters s).map waiterSeq

/-- The Seq of the held items' records. -/
def heldSeqs (s : State) : List (BitVec 32) :=
  ((holdOf .request s).toList ++ (holdOf .response s).toList).map fun h => h.record.seq

/-! ## Modes, lock, hold, overrun -/

/-- R30: while the Guard Lock is set, the mode is not BYPASS. -/
def LockSound (s : State) : Prop := s.ctrl.guardLock = true → s.ctrl.mode ≠ .bypass

/-- R101, R106: an item is held only in ACTIVE. -/
def HoldSound (s : State) : Prop := ∀ side, holdOf side s ≠ none → s.ctrl.mode = .active

/-- R143: OVERRUN is clear in LOSSLESS mode. -/
def OverrunSound (s : State) : Prop := s.ring.overrun = true → s.ring.config.mode = .lossy

/-! ## The order of the records (R128, R134, R140) -/

/-- R134: the records of the queue stand in the order of their creation, before every record that waits for room, and these before every
held item's; no Seq occurs twice, and none is the next one. R128: the i-th record of the queue is placed in slot (P + i) mod Slots. R103,
R131: while an item is held no slot is free. -/
structure QueueOrdered (s : State) : Prop where
  ring     : RingSound s
  hold     : HoldSound s
  overrun  : OverrunSound s
  slots    : s.ring.config.slots = 0 ∨ 65536 % s.ring.config.slots = 0
  placed   : ∀ i q, s.ring.queue[i]? = some q → q.slot = (s.ring.p.toNat + i) % s.ring.config.slots
  queue    : (queuedSeqs s).Pairwise fun a b => createdBefore s.ring.seq a b = true
  waiting  : ∀ a ∈ queuedSeqs s, ∀ b ∈ waitingSeqs s, createdBefore s.ring.seq a b = true
  held     : ∀ a ∈ queuedSeqs s ++ waitingSeqs s, ∀ b ∈ heldSeqs s, createdBefore s.ring.seq a b = true
  distinct : (waitingSeqs s).Nodup ∧ (heldSeqs s).Nodup
  fresh    : s.ring.seq ∉ queuedSeqs s ++ waitingSeqs s ++ heldSeqs s
  full     : heldSeqs s ≠ [] → slotFree s = false

/-! ## Events (R166) -/

/-- R166: a source's Occurrence count is 0 exactly while it is not pending, and the rule set is {} while RULE_SIGNAL is not pending. -/
structure EventsSound (s : State) : Prop where
  counts : ∀ src : EventSource, (eventRecord s.events src).pending = true ↔ (eventRecord s.events src).count ≠ 0
  rules  : (eventRecord s.events .ruleSignal).pending = false → s.events.signalRules = 0

/-! ## Frames -/

/-- The management command, the parameter bytes and the tail of a command that is a whole frame (11.2). -/
def frameOf : Instr → Option (MgmtCommand × List Byte × FrameTail)
  | .status t => some (.status, [], t)
  | .setMode m t => some (.setMode, [m], t)
  | .lockGuards t => some (.lockGuards, [], t)
  | .loadSource i src c f t => some (.loadSource, [i, src, c, f], t)
  | .clearSource i t => some (.clearSource, [i], t)
  | .readSource i c t => some (.readSource, [i, c], t)
  | .loadRule p t => some (.loadRule, ruleParamBytes p, t)
  | .enableRule i t => some (.enableRule, [i], t)
  | .disableRule i t => some (.disableRule, [i], t)
  | .clearRule i t => some (.clearRule, [i], t)
  | .readRule i t => some (.readRule, [i], t)
  | .readCounters i t => some (.readCounters, [i], t)
  | .readGlobals t => some (.readGlobals, [], t)
  | .setRing p t => some (.setRing, ringParamBytes p, t)
  | .ringStatus t => some (.ringStatus, [], t)
  | .setFill b t => some (.setFill, b.cells, t)
  | .setTimers rt hl ms t => some (.setTimers, be16 rt ++ be16 hl ++ [ms], t)
  | .loadStage i r c w e t => some (.loadStage, [i] ++ be32 r ++ be16 c ++ be32 w ++ [e], t)
  | .setSequencer n a p f t => some (.setSequencer, [n] ++ be32 a ++ be16 p ++ [f], t)
  | .seqStart t => some (.seqStart, [], t)
  | .seqStop t => some (.seqStop, [], t)
  | .seqStatus t => some (.seqStatus, [], t)
  | .readSnapshot t => some (.readSnapshot, [], t)
  | .clearSnapshot t => some (.clearSnapshot, [], t)
  | .takeEvent t => some (.takeEvent, [], t)
  | .endEvent t => some (.endEvent, [], t)
  | .setEventEnable l0 l1 l2 l3 ge t => some (.setEventEnable, [l0, l1, l2, l3, ge], t)
  | .requestArrival _ | .responseArrival _ | .requestAtHead | .ortEntryCreate | .refusalQueueAdmit | .responseAtHead
  | .captureQueueAdmit | .farPortGrant | .captureWriterStart | .nearPortResponseGrant | .farRequestCredit _ | .nearResponseCredit _
  | .readTimerExpiry _ _ | .holdExpiry _ | .stageWindowExpiry | .markPulseEnd | .timeTick | .freezeRequest | .linkReset
  | .boardReset | .powerOn | .linkUp _ | .frameAbort _ _ | .badCommand _ _ => none

/-- The port can take a frame of these bits: it is not in power-on or board reset (R182), and if a frame is being received, the bits sampled
of it are the first of these. -/
def portReady (bits : List Bool) (s : State) : Bool :=
  !s.pins.power && !s.pins.board && match s.port.link.frame with
    | .receiving got => got.isPrefixOf bits
    | _ => true

/-- The port takes the frame and executes its command: it can take its bits, and the check matches (R176, R177, R182). -/
def runs (c : Instr) (s : State) : Bool :=
  match frameOf c with
  | some (cmd, params, tail) => portReady (frameBits cmd params tail.check) s && crc8 (codeOf cmd :: params) == tail.check
  | none => false

/-- `s` once the frame of `c` is answered with a result and response bytes: the port has received the frame, drives the answer, and sees
the edges that follow; nothing outside the port changes. -/
def replied (c : Instr) (r : ResultCode) (response : List Byte) (s : State) : State :=
  match frameOf c with
  | some (cmd, params, tail) =>
    { s with
      port := portEdges tail.after
        (startSending (answerBytes cmd r response) 0xFF (received (frameBits cmd params tail.check) s.port)) }
  | none => s

/-- The edges with which the host sends bits: for each a rising edge of SCK, with the bit on SDI, and a falling one (R174). -/
def clockIn (bits : List Bool) : List PortEdge := bits.flatMap fun b => [.sckRise b, .sckFall]

/-- The edges with which the host samples one bit on SDO for each of the levels it puts on SDI, SCK being high before (R174). -/
def clockOut (sdi : List Bool) : List PortEdge := sdi.flatMap fun b => [.sckFall, .sckRise b]

/-- The frames on record once the one whose answer is being read, if there is one, has ended (log 9). -/
def recordedFrames (p : MgmtPort) : List (List Bool) :=
  match p.link.frame with
  | .receiving _ => p.sdo
  | _ => if p.link.read = [] then p.sdo else p.sdo ++ [p.link.read]

/-- R174, R175, R182: SDO is driven exactly while a frame is in progress; with SEL_n high, and in power-on and board reset, none is; and while
a command is being received, 0 is driven and has been for each of its bits, which make no whole command yet. -/
structure SerialSound (s : State) : Prop where
  high      : s.port.link.selLow = false → s.port.link.frame = .absent
  held      : inHardReset s = true → s.port.link.frame = .absent
  driven    : s.port.link.frame = .absent ↔ s.port.link.sdo = none
  unread    : s.port.link.frame = .absent → s.port.link.read = []
  receiving : ∀ bits, s.port.link.frame = .receiving bits → reception bits = .incomplete ∧ s.port.link.sdo = some false ∧
    s.port.link.read = List.replicate bits.length false

/-! ## The heads of the buffers -/

/-- `b` stands at the head of the Request Buffer and has not been handled yet. -/
abbrev atHead (b : BufferedRequest) (s : State) : Prop := s.near.head = .fresh ∧ s.near.buffer.head? = some b

/-- `b` stands at the head of the Response Buffer and has not been handled yet. -/
abbrev responseAtHead (b : BufferedResponse) (s : State) : Prop := s.far.head = .fresh ∧ s.far.buffer.head? = some b

/-- A well-formed request of a kind at the head, in ACTIVE or FROZEN. -/
abbrev wellFormedHead (kind : Byte) (b : BufferedRequest) (s : State) : Prop :=
  atHead b s ∧ s.ctrl.mode ≠ .bypass ∧ b.cls = .wellFormed ∧ b.packet.kind = kind

/-- The near side after the head request leaves: the next one is at the head, and one credit is returned (R5). -/
def leftNear (n : NearPort) : NearPort := { n with buffer := n.buffer.tail, head := .fresh, granted := n.granted + 1 }

/-- `s` with PROTOCOL raised if the packet bears the Monitor Source (R13). -/
def clashed (p : RequestPacket) (s : State) : State :=
  if p.source = s.timers.monitorSource then raise .protocol s else s

/-! ## Read tracking -/

/-- The Use Counts once an entry with this pending set is removed (R49). -/
def rulesWithout (pending : RuleSet) (rules : Table Rule 32) : Table Rule 32 :=
  rules.mapIdx fun i r => if hasRule pending i then { r with useCount := r.useCount - 1 } else r

/-- `s` with the live entry `e` removed (R84). -/
def withoutEntry (e : OrtEntry) (s : State) : State :=
  { s with ort := s.ort.eraseP (holdsKeyLive e.source e.tag), rules := rulesWithout e.pendingRules s.rules }

/-- The entry's timer runs and its limit has passed (R82, R24). -/
def Due (now : Ticks) (e : OrtEntry) : Prop :=
  e.phase = .timing ∧ ∃ start limit, e.requestTime = some start ∧ e.limit = some limit ∧ limit.toNat ≤ (now - start).toNat

/-! ## Records -/

/-- The ring with the record at the tail of the Capture Queue, in its slot (R128). -/
def queued (r : Record) (g : RingController) : RingController :=
  { g with queue := g.queue ++ [⟨r, (g.p.toNat + g.queue.length) % g.config.slots⟩] }

/-- `s` with one record counted as lost and signalled (R104, R132). -/
def lost (s : State) : State :=
  { s with ring := { s.ring with loss := satInc s.ring.loss }, events := raiseEvent .ringLoss 0 s.events }

/-- `s` with a record dropped: lost, and OVERRUN entered and signalled if it was clear (R133). -/
def dropped (s : State) : State :=
  if s.ring.overrun then lost s
  else { s with ring := { s.ring with loss := satInc s.ring.loss, overrun := true },
                events := raiseEvent .overrun 0 (raiseEvent .ringLoss 0 s.events) }

/-! ## Counters -/

/-- The counter of a name. -/
def globalValue (k : GlobalCounter) (g : Globals) : BitVec 32 :=
  match k with
  | .forwardedRequests => g.forwardedRequests
  | .forwardedReads => g.forwardedReads
  | .forwardedWrites => g.forwardedWrites
  | .refused => g.refused
  | .damaged => g.damaged
  | .malformed => g.malformed
  | .duplicateTag => g.duplicateTag
  | .strayResponses => g.strayResponses
  | .readExpiries => g.readExpiries
  | .intrusions => g.intrusions
  | .holdExpiries => g.holdExpiries
  | .consumerInvalid => g.consumerInvalid

/-- The five hit bins of a rule with the largest Length of each, in order (R108). -/
def bins (k : RuleCounters) : List (Nat × BitVec 32) :=
  [(4, k.bin1to4), (8, k.bin5to8), (16, k.bin9to16), (32, k.bin17to32), (64, k.bin33to64)]

/-! ## Tables (R33, R41, R47, R69, R122, R123) -/

/-- R33, R41: no two VALID entries hold one Source ID, a VALID entry has a Class of 1 to 7, and an EMPTY entry holds zero. -/
structure SourcesSound (s : State) : Prop where
  unique : ∀ i j, i < 16 → j < 16 → (sourceAt s i).valid = true → (sourceAt s j).valid = true →
    (sourceAt s i).sourceId = (sourceAt s j).sourceId → i = j
  classes : ∀ i, i < 16 → (sourceAt s i).valid = true → (sourceAt s i).cls ≠ 0
  empty   : ∀ i, i < 16 → (sourceAt s i).valid = false → sourceAt s i = SourceEntry.empty

/-- What R69 asks of a Compare. -/
structure CompareLoadable (c : Compare) : Prop where
  present : c.present ≠ 0
  width   : c.width = 1 ∨ c.width = 2 ∨ c.width = 4
  offset  : c.offset.toNat ≤ 63
  fits    : c.offset.toNat + c.width.toNat ≤ 64

/-- What R69 asks of a definition. -/
structure Loadable (d : RuleDef) : Prop where
  window    : d.base.toNat ≤ d.limit.toNat
  kinds     : d.kindRd = true ∨ d.kindWr = true
  classes   : d.classes ≠ 0
  minLength : 1 ≤ d.minLength.toNat ∧ d.minLength.toNat ≤ 64
  terms     : d.pattern.length ≤ 8
  offsets   : ∀ t ∈ d.pattern, t.offset.toNat ≤ 63
  compare   : ∀ c, d.compare = some c → CompareLoadable c

/-- R47, R69: an EMPTY rule holds zero in its definition, and any other rule a definition that LOAD_RULE accepts. -/
structure RulesSound (s : State) : Prop where
  empty  : ∀ i, i < 32 → (ruleAt s i).state = .empty → (ruleAt s i).defn = RuleDef.empty
  loaded : ∀ i, i < 32 → (ruleAt s i).state ≠ .empty → Loadable (ruleAt s i).defn

/-- What R123 asks of a configuration. -/
structure RingLoadable (g : RingConfig) : Prop where
  base     : g.base.toNat % 128 = 0
  slots    : g.slots ∈ [16, 32, 64, 128, 256, 512, 1024, 2048, 4096]
  fits     : g.base.toNat + 128 * g.slots ≤ 2 ^ 32
  aligned  : g.producerAddr.toNat % 4 = 0 ∧ g.consumerAddr.toNat % 4 = 0
  differ   : g.producerAddr ≠ g.consumerAddr
  producer : g.producerAddr.toNat < g.base.toNat ∨ g.base.toNat + 128 * g.slots ≤ g.producerAddr.toNat
  consumer : g.consumerAddr.toNat < g.base.toNat ∨ g.base.toNat + 128 * g.slots ≤ g.consumerAddr.toNat

/-- R122 to R125: a PENDING or VALID configuration is one that SET_RING accepts; and while the writer presents SET_RING's Producer Word
write, the configuration is PENDING. -/
structure ConfigSound (s : State) : Prop where
  loaded     : s.ring.config.state ≠ .invalid → RingLoadable s.ring.config
  completing : ∀ p, s.ring.writer = .producer p true → s.ring.config.state = .pending

/-! ## LOAD_RULE parameters read back (R185) -/

/-- The parameters with the bytes that LOAD_RULE ignores made 0: the terms beyond the count, and the Compare's when it is absent. -/
def ignoredCleared (p : RuleParams) : RuleParams :=
  let q := { p with terms := p.terms.mapIdx fun i t => if i < p.termCount.toNat then t else ⟨0, 0, 0⟩ }
  if p.compare = 0 then { q with compareOffset := 0, compareWidth := 0, fieldMask := 0, operand := 0, condition := 0 } else q

end Sys2Proof.Machine
end

