-- ==== Sys2Proof/Certificates/Slice0/Obligations.lean ====
section
/-! DEFINITION. The statements for the provers. A statement gives the next state of a command whole, so it is the frame as well: every
field it does not name is unchanged. Titles, bases and citations stand in OBLIGATIONS.json. -/

open Sys2Proof Sys2Proof.Machine

/-! ## The queue and the resets -/

/-- A step takes the command at the front of the queue and is `exec` of it on the state with the queue's rest; on an empty queue the
part idles (the model's choice, log 1). -/
def Obligations.StepTakesFront : Prop :=
  (∀ (c : Instr) (s : State), step { s with pending := c :: s.pending } = exec c s) ∧
  ∀ s : State, s.pending = [] → step s = .next s

/-- No command touches the queue. Time changes by TIME_TICK, the timers by SET_TIMERS, the Fill Pattern by SET_FILL, and all three by
power-on and board reset. A Valid Fire Snapshot changes by CLEAR_SNAPSHOT and power-on alone (R24, R92, R95, R162; log 1). -/
def Obligations.WhatEveryCommandKeeps : Prop :=
  ∀ (c : Instr) (s : State),
    let hard := c = .boardReset ∨ c = .powerOn
    IfNext (exec c s) fun t =>
    t.pending = s.pending ∧
    (t.time ≠ s.time → c = .timeTick ∨ hard) ∧
    (t.timers ≠ s.timers → (∃ rt hl ms tail, c = .setTimers rt hl ms tail) ∨ hard) ∧
    (t.fill ≠ s.fill → (∃ bytes tail, c = .setFill bytes tail) ∨ hard) ∧
    ∀ x, s.seqr.snapshot = some x → t.seqr.snapshot ≠ some x → (∃ tail, c = .clearSnapshot tail) ∨ c = .powerOn

/-- State.reset holds the value each rule states for power-on, and every invariant of the package. That it is the moment with the link
up is the model's choice (log 2), and so are the levels of the Management port's pins (log 21), and the values of the fields that are the
model's own: no freeze request in flight (log 15), nothing read on SDO (log 9), the ledger of granted credits (log 20). -/
def Obligations.ResetSound : Prop :=
  let s := State.reset
  s.ctrl = { mode := .bypass, guardLock := false, freezeRequests := 0 } ∧ s.time = 0 ∧
  (∀ i, i < 16 → sourceAt s i = ⟨false, 0, 0, false, false, 0⟩) ∧ (∀ i, i < 32 → ruleAt s i =
    { state := .empty, useCount := 0, defn :=
      { base := 0, limit := 0, windowMode := .overlap, kindRd := false, kindWr := false, classes := 0, minLength := 0, pattern := [],
        compare := none, actions := ⟨false, false, false⟩, depth := .headerOnly } }) ∧
  s.ort = [] ∧ s.timers = { readTimeout := 1000, holdLimit := 100, monitorSource := 63 } ∧ (∀ i, i < 16 → s.fill.get i 1 = 0) ∧
  (∀ i, i < 32 → countersAt s i = ⟨0, 0, 0, 0, 0, 0⟩) ∧ (∀ k, globalValue k s.counters.globals = 0) ∧
  s.near.buffer = [] ∧ s.far.buffer = [] ∧ s.near.head = .fresh ∧ s.far.head = .fresh ∧ s.near.refusals = [] ∧
  s.near.lastWinner = .refusalQueue ∧ s.far.lastWinner = .writer ∧ s.near.granted = 8 ∧ s.far.granted = 8 ∧ s.near.credits = 0 ∧
  s.far.credits = 0 ∧ s.ring.config =
    { base := 0, slots := 0, producerAddr := 0, consumerAddr := 0, mode := .lossless, guard := false, state := .invalid } ∧
  s.ring.p = 0 ∧ s.ring.c = 0 ∧ s.ring.seq = 0 ∧ s.ring.overrun = false ∧
  s.ring.overrunSeen = false ∧ s.ring.loss = 0 ∧ s.ring.queue = [] ∧ s.ring.writer = .idle ∧
  (∀ k, k < 4 → stageAt s.seqr k = ⟨0, 1, 0, .restart⟩) ∧
  s.seqr.settings = { stagesInUse := 1, abortRules := 0, postCount := 0, freeze := false, mark := false } ∧ s.seqr.state = .off ∧
  s.seqr.snapshot = none ∧ markHigh s = false ∧ (∀ src, eventRecord s.events src = ⟨false, 0⟩) ∧ s.events.signalRules = 0 ∧
  s.events.levelEnable = 0 ∧ s.events.globalEnable = false ∧ s.events.inService = 0 ∧ evtAsserted s.events = false ∧
  s.port.slot = .idle ∧ s.port.frameFault = 0 ∧ s.port.lastFrameAborted = false ∧ s.port.lastReset = .power ∧ s.port.resetCount = 0 ∧
  s.port.link = { selLow := false, sckHigh := false, frame := .absent, sdo := none, read := [] } ∧
  Bounded s ∧ UseCountsExact s ∧ RingSound s ∧ LockSound s ∧ HoldSound s ∧ OverrunSound s ∧ EventsSound s ∧ SourcesSound s ∧
  RulesSound s ∧ ConfigSound s ∧ SerialSound s ∧ QueueOrdered s

/-- R20, R21, R31, R32, R161: from any state, POWER_ON takes the link down, and a LINK_UP that releases all three inputs then leaves
State.reset. BOARD_RESET with neither PWR_OK low nor RST_n asserted already: every field takes its value of State.reset, but the Fire
Snapshot is kept, Last Reset is BOARD and the Reset Count rises, saturating at 255. At both a frame in progress is discarded, SDO is high
impedance, and the pins of the port keep their levels (R182). The outputs already made and the queue are outside the part. Then the
overlaps of R32: under power-on nothing is recorded, under board reset an LRST_n is not recorded, and a repeated assertion is none. (The
model's choices: logs 1, 2, 6, 7, 8, 9, 20.) -/
def Obligations.HardResetsRestore : Prop :=
  let link (p : MgmtPort) : SerialLink :=
    { selLow := p.link.selLow, sckHigh := p.link.sckHigh, frame := .absent, sdo := none, read := [] }
  let record (p : MgmtPort) := if p.link.read = [] then p.sdo else p.sdo ++ [p.link.read]
  (∀ (up : List PortEdge) (s : State), Answers (exec .powerOn s) fun t =>
    t.pins = { s.pins with power := true } ∧ t.linkUp = false ∧ t.near.granted = 0 ∧ t.far.granted = 0 ∧
    t.port = { State.reset.port with link := link s.port, sdo := record s.port } ∧
    t.seqr.snapshot = none ∧ t.pending = s.pending ∧
    exec (.linkUp ⟨up, ⟨true, true, true⟩⟩) t = .next { State.reset with
      near := { State.reset.near with sent := s.near.sent }
      far := { State.reset.far with sent := s.far.sent }
      port := { State.reset.port with link := up.foldl pinEdge (link s.port), sdo := record s.port }
      pending := s.pending }) ∧
  (∀ s : State, s.pins.power = false → s.pins.board = false →
    exec .boardReset s = .next { State.reset with
      pins := { s.pins with board := true }
      linkUp := false
      near := State.clearedNear 0 s.near.sent
      far := State.clearedFar 0 s.far.sent
      seqr := { State.reset.seqr with snapshot := s.seqr.snapshot }
      port := { State.reset.port with
        lastReset := .board
        resetCount := if s.port.resetCount = 255 then 255 else s.port.resetCount + 1
        link := link s.port
        sdo := record s.port }
      pending := s.pending }) ∧
  (∀ s : State, s.pins.power = true → exec .boardReset s = .next { s with pins := { s.pins with board := true } }) ∧
  (∀ s : State, s.pins.power = false → s.pins.board = true → exec .boardReset s = .next s) ∧
  (∀ s : State, s.pins.power = true ∨ s.pins.board = true →
    exec .linkReset s = .next { s with pins := { s.pins with link := true } }) ∧
  ∀ s : State, s.pins = ⟨false, false, true⟩ → exec .linkReset s = .next s

/-- R19, R31, R47, R125, R137: LINK_RESET with no reset input asserted: the traffic state of both ports is discarded, Ring Loss takes one
for each record of the Capture Queue, each waiting record and each held item's record, a PENDING SET_RING is aborted, every Use Count
becomes 0, and Last Reset is LINK. Everything else is kept, RING_LOSS is not raised, and a frame in progress continues (R182). (The model's
choices: logs 8, 9, 15, 20.) -/
def Obligations.LinkResetClears : Prop :=
  ∀ s : State, s.pins = ⟨false, false, false⟩ → exec .linkReset s = .next { s with
    pins := ⟨false, false, true⟩
    linkUp := false
    near := { buffer := [], head := .fresh, granted := 0, credits := 0, refusals := [], lastWinner := .refusalQueue,
              sent := s.near.sent }
    far := { buffer := [], head := .fresh, granted := 0, credits := 0, lastWinner := .writer, sent := s.far.sent }
    ort := []
    rules := s.rules.mapIdx fun _ r => { r with useCount := 0 }
    ring := { s.ring with
      config := { s.ring.config with state := if s.ring.config.state = .pending then .invalid else s.ring.config.state }
      loss := satAdd s.ring.loss (s.ring.queue.length + waitingRecords s + (holdOf .request s).isSome.toNat + (holdOf .response s).isSome.toNat)
      queue := []
      writer := .idle }
    port := { s.port with slot := if s.port.slot = .pending then .doneAborted else s.port.slot, lastReset := .link } }

/-- LINK_UP takes the edges it carries and deasserts the inputs it names. The link comes up when none is asserted then: 8 credits are
granted on each side and none is held. Otherwise it stays down, and a link that is up stays as it is. R6, R7: a grant or return of 1 to 16 credits raises the count held on
its port, and one that would raise it above 16 is discarded (whole, log 10); while the link is in reset there is none to hold (R19). (The
model's choices: logs 6, 7, 8, 20.) -/
def Obligations.LinkComesUpAndCountsCredits : Prop :=
  (∀ (before : List PortEdge) (released : ResetInputs) (s : State),
    let left : ResetInputs :=
      ⟨s.pins.power && !released.power, s.pins.board && !released.board, s.pins.link && !released.link⟩
    let port := (takeEdges before s).port
    exec (.linkUp ⟨before, released⟩) s = .next (if left = ⟨false, false, false⟩ ∧ s.linkUp = false then
      { s with
        pins := left
        linkUp := true
        near := { s.near with granted := 8, credits := 0 }
        far := { s.far with granted := 8, credits := 0 }
        port := port }
      else { s with pins := left, port := port })) ∧
  ∀ (n : Nat) (s : State), 1 ≤ n → n ≤ 16 →
    (s.linkUp = true →
      exec (.farRequestCredit n) s = .next { s with far := { s.far with
        credits := if s.far.credits + n ≤ 16 then s.far.credits + n else s.far.credits } } ∧
      exec (.nearResponseCredit n) s = .next { s with near := { s.near with
        credits := if s.near.credits + n ≤ 16 then s.near.credits + n else s.near.credits } }) ∧
    (s.linkUp = false → exec (.farRequestCredit n) s = .next s ∧ exec (.nearResponseCredit n) s = .next s)

/-! ## Formats -/

/-- Decode of encode: the fields read at the positions of R183 from the bytes of a packet are the packet, for every request and every
response, whatever number of data bytes follows. -/
def Obligations.PacketsReadBack : Prop :=
  (∀ p : RequestPacket, reqOfBytes (reqBytes p) = some p) ∧ ∀ p : ResponsePacket, rspOfBytes (rspBytes p) = some p

/-- Encode of decode: whenever LOAD_RULE parameters give a definition, READ_RULE's bytes 1 to 51 of that definition are the parameter
bytes loaded, with the ignored ones 0 (log 13 for the Compare's present byte). -/
def Obligations.LoadedRuleReadsBack : Prop :=
  ∀ (p : RuleParams) (d : RuleDef), ruleDefOf p = some d → ruleDefBytes d = (ruleParamBytes (ignoredCleared p)).drop 1

/-- The codes of 12.2 and 12.3: each command's code with its numbers of parameter and response bytes, the result codes, and the enumerated
values of every field that the port or a record carries. -/
def Obligations.CodesOfTheFormats : Prop :=
  allCommands.map (fun c => (codeOf c, paramCount c, responseCount c)) =
    [(0x01, 0, 12), (0x02, 1, 0), (0x03, 0, 0), (0x10, 4, 0), (0x11, 1, 0), (0x12, 2, 5), (0x20, 52, 0), (0x21, 1, 0), (0x22, 1, 0),
     (0x23, 1, 0), (0x24, 1, 53), (0x30, 1, 24), (0x31, 0, 52), (0x40, 16, 0), (0x41, 0, 16), (0x50, 16, 0), (0x51, 5, 0), (0x60, 12, 0),
     (0x61, 8, 0), (0x62, 0, 0), (0x63, 0, 0), (0x64, 0, 5), (0x65, 0, 63), (0x66, 0, 0), (0x70, 0, 7), (0x71, 0, 1), (0x72, 5, 0)] ∧
  allCommands =
    [.status, .setMode, .lockGuards, .loadSource, .clearSource, .readSource, .loadRule, .enableRule, .disableRule, .clearRule, .readRule,
     .readCounters, .readGlobals, .setRing, .ringStatus, .setFill, .setTimers, .loadStage, .setSequencer, .seqStart, .seqStop, .seqStatus,
     .readSnapshot, .clearSnapshot, .takeEvent, .endEvent, .setEventEnable] ∧
  (∀ cmd : MgmtCommand, cmd ∈ allCommands) ∧
  [ResultCode.ok, .pending, .busy, .badCommand, .badParam, .badCheck, .ruleBusy, .notDisabled, .emptyRule, .locked, .wrongMode, .noRing,
    .duplicateSource, .aborted, .noEvent, .noneInService].map resultByte =
    [0x00, 0x01, 0x02, 0x03, 0x04, 0x05, 0x06, 0x07, 0x08, 0x09, 0x0A, 0x0B, 0x0C, 0x0D, 0x0E, 0x0F] ∧
  [Mode.bypass, .active, .frozen].map modeByte = [0x00, 0x01, 0x02] ∧
  [LongSlot.idle, .pending, .doneOk, .doneAborted].map slotByte = [0x00, 0x01, 0x02, 0x03] ∧
  [ResetKind.power, .board, .link].map resetKindByte = [0x00, 0x01, 0x02] ∧
  [ConfigState.invalid, .pending, .valid].map configStateByte = [0x00, 0x01, 0x02] ∧
  (∀ k progress ws n, [SeqState.off, .run k progress ws, .post n, .fired].map seqStateByte = [0x00, 0x01, 0x02, 0x03]) ∧
  [RuleState.empty, .disabled, .enabled].map ruleStateByte = [0x00, 0x01, 0x02] ∧
  [WindowMode.overlap, .inside].map windowModeByte = [0x00, 0x01] ∧ [Depth.headerOnly, .withData].map depthByte = [0x00, 0x01] ∧
  [Condition.eq, .ne, .ult, .uge, .ugt, .ule, .lt, .ge, .gt, .le].map conditionByte =
    [0x00, 0x01, 0x02, 0x03, 0x04, 0x05, 0x06, 0x07, 0x08, 0x09] ∧
  [RecordOutcome.forwarded, .refusedEarly, .refusedLate, .memoryFault, .responseDamaged, .expired].map outcomeByte =
    [0x01, 0x02, 0x03, 0x04, 0x05, 0x06] ∧
  [false, true].map flagByte = [0x00, 0x01] ∧ (kindRd, kindWr) = (0x01, 0x02) ∧
  (statusOk, statusFault, statusRefused) = (0x01, 0x02, 0x03) ∧
  (∀ (b0 b1 b2 : Bool) (i : Nat), i < 8 →
    (bitsByte b0 b1 b2).getLsbD i = if i = 0 then b0 else if i = 1 then b1 else if i = 2 then b2 else false) ∧
  ∀ b : Byte, byteOfBits (byteBits b) = b ∧ ∀ i, i < 8 → (byteBits b)[i]? = some (b.getLsbD (7 - i))

/-! ## Matching -/

/-- Each Condition of R56 is its test on the flags, and holds on the flags of F − K exactly when F and K, read as unsigned or as two's
complement numbers, stand in the relation named; a LOAD_RULE with a present Compare and any other Condition code is refused. It answers
BAD_PARAM and changes nothing. -/
def Obligations.ConditionsReadNumbers : Prop :=
  (∀ x : CompareFlags,
    conditionHolds .eq x = x.z ∧ conditionHolds .ne x = !x.z ∧ conditionHolds .ult x = x.c ∧ conditionHolds .uge x = !x.c ∧
    conditionHolds .ugt x = (!x.c && !x.z) ∧ conditionHolds .ule x = (x.c || x.z) ∧ conditionHolds .lt x = (x.s ^^ x.v) ∧
    conditionHolds .ge x = !(x.s ^^ x.v) ∧ conditionHolds .gt x = (!x.z && !(x.s ^^ x.v)) ∧
    conditionHolds .le x = (x.z || (x.s ^^ x.v))) ∧
  (∀ (n : Nat) (f k : BitVec n),
    (conditionHolds .eq (subFlags f k) = true ↔ f = k) ∧ (conditionHolds .ne (subFlags f k) = true ↔ f ≠ k) ∧
    (conditionHolds .ult (subFlags f k) = true ↔ f.toNat < k.toNat) ∧ (conditionHolds .uge (subFlags f k) = true ↔ k.toNat ≤ f.toNat) ∧
    (conditionHolds .ugt (subFlags f k) = true ↔ k.toNat < f.toNat) ∧ (conditionHolds .ule (subFlags f k) = true ↔ f.toNat ≤ k.toNat) ∧
    (conditionHolds .lt (subFlags f k) = true ↔ f.toInt < k.toInt) ∧ (conditionHolds .ge (subFlags f k) = true ↔ k.toInt ≤ f.toInt) ∧
    (conditionHolds .gt (subFlags f k) = true ↔ k.toInt < f.toInt) ∧ (conditionHolds .le (subFlags f k) = true ↔ f.toInt ≤ k.toInt)) ∧
  ∀ (p : RuleParams) (s : State), p.compare ≠ 0 → 9 < p.condition.toNat → loadRuleReply p s = ⟨.badParam, [], s⟩

/-- R54: a term holds exactly when the data reaches its Offset and the byte there agrees with Value in Mask's bits; the Pattern holds
exactly when every term does. R55: a Compare holds exactly when its field fits and its Condition holds on the flags of F − K, with F the
little-endian field masked and K the truncated Operand; the flags are those of steps 4 to 8. -/
def Obligations.DataTestsOnBytes : Prop :=
  (∀ (t : PatternTerm) (data : List Byte),
    termHolds t data = true ↔ ∃ b, data[t.offset.toNat]? = some b ∧ b &&& t.mask = t.value &&& t.mask) ∧
  (∀ (pattern : List PatternTerm) (data : List Byte), patternHolds pattern data = true ↔ ∀ t ∈ pattern, termHolds t data = true) ∧
  (∀ (c : Compare) (data : List Byte),
    compareHolds c data = true ↔ c.offset.toNat + c.width.toNat ≤ data.length ∧
      conditionHolds c.condition (subFlags
        (BitVec.ofNat (8 * c.width.toNat) (leNat ((data.drop c.offset.toNat).take c.width.toNat)) &&&
          c.fieldMask.setWidth (8 * c.width.toNat))
        (c.operand.setWidth (8 * c.width.toNat))) = true) ∧
  (∀ (b : Byte) (bs : List Byte), leNat [] = 0 ∧ leNat (b :: bs) = b.toNat + 256 * leNat bs) ∧
  ∀ (n : Nat) (f k : BitVec n),
    ((subFlags f k).z = true ↔ f - k = 0) ∧ ((subFlags f k).c = true ↔ f.toNat < k.toNat) ∧ (subFlags f k).s = (f - k).msb ∧
    ((subFlags f k).v = true ↔ f.msb ≠ k.msb ∧ (f - k).msb ≠ f.msb)

/-- R51 on the bytes a request covers: the test of each Window Mode is its inequality; for a loadable window OVERLAP holds exactly when
some byte lies in it and INSIDE exactly when every byte does; and the last byte of a well-formed request lies in the 64-byte block of
its Address, below 2^32. -/
def Obligations.WindowCoversBytes : Prop :=
  (∀ (d : RuleDef) (a l : Nat), 1 ≤ l →
    (d.windowMode = .overlap → (windowTest d a l = true ↔ a ≤ d.limit.toNat ∧ d.base.toNat ≤ a + l - 1)) ∧
    (d.windowMode = .inside → (windowTest d a l = true ↔ d.base.toNat ≤ a ∧ a + l - 1 ≤ d.limit.toNat))) ∧
  (∀ (d : RuleDef) (a l : Nat), 1 ≤ l → d.base.toNat ≤ d.limit.toNat →
    (d.windowMode = .overlap → (windowTest d a l = true ↔ ∃ k, k < l ∧ d.base.toNat ≤ a + k ∧ a + k ≤ d.limit.toNat)) ∧
    (d.windowMode = .inside → (windowTest d a l = true ↔ ∀ k, k < l → d.base.toNat ≤ a + k ∧ a + k ≤ d.limit.toNat))) ∧
  ∀ p : RequestPacket, classify p = .wellFormed →
    1 ≤ p.length.toNat ∧ (p.address.toNat + p.length.toNat - 1) / 64 = p.address.toNat / 64 ∧
    p.address.toNat + p.length.toNat - 1 < 2 ^ 32

/-- The sets of R50, R53, R57, R58 and R61, member by member: address tests, candidates, rules with data tests, match sets of a write and
of a read resolved by its response, and the rules of each Action. Two sets meet exactly when they share a rule. -/
def Obligations.MatchSetMembers : Prop :=
  (∀ (r : Rule) (kind : Kind) (cls : ClassNo) (a l : Nat), addressTests r kind cls a l = true ↔
    r.state = .enabled ∧ (if kind = .rd then r.defn.kindRd else r.defn.kindWr) = true ∧ r.defn.classes.getLsbD cls.toNat = true ∧
    windowTest r.defn a l = true ∧ r.defn.minLength.toNat ≤ l) ∧
  (∀ (d : RuleDef) (data : List Byte), dataTests d data = true ↔
    patternHolds d.pattern data = true ∧ ∀ c, d.compare = some c → compareHolds c data = true) ∧
  (∀ (s : State) (kind : Kind) (cls : ClassNo) (p : RequestPacket) (i : Nat), i < 32 →
    hasRule (candidates kind cls p s) i = addressTests (ruleAt s i) kind cls p.address.toNat p.length.toNat ∧
    (hasRule (dataRules s) i = true ↔ (ruleAt s i).defn.pattern ≠ [] ∨ (ruleAt s i).defn.compare ≠ none) ∧
    hasRule (writeMatchSet cls p s) i =
      (addressTests (ruleAt s i) .wr cls p.address.toNat p.length.toNat && dataTests (ruleAt s i).defn p.data) ∧
    hasRule (blockRules s) i = (ruleAt s i).defn.actions.block ∧ hasRule (captureRules s) i = (ruleAt s i).defn.actions.capture ∧
    hasRule (signalRules s) i = (ruleAt s i).defn.actions.signal ∧
    (hasRule (withDataRules s) i = true ↔
      (ruleAt s i).defn.actions.capture = true ∧ (ruleAt s i).defn.depth = .withData)) ∧
  (∀ (s : State) (b : BufferedResponse) (e : OrtEntry) (i : Nat), i < 32 →
    (hasRule (responseMatchSet b e s) i = true ↔ hasRule e.noData i = true ∨
      (b.damaged = false ∧ b.packet.status = statusOk ∧ b.packet.length = e.length ∧ hasRule e.pendingRules i = true ∧
        dataTests (ruleAt s i).defn b.packet.data = true))) ∧
  ∀ a b : RuleSet, meets a b = true ↔ ∃ i, i < 32 ∧ hasRule a i = true ∧ hasRule b i = true

/-- R34, R37: with the Source Table sound, a VALID entry that holds the Source ID gives its Class and clears U under ForceOrdered and G
under Demote; an unlisted Source ID has class 0 and no rewrite. A changed request has the check computed over its new contents, an
unchanged one the check it came with (R4). -/
def Obligations.SourceGivesClassAndRewrite : Prop :=
  (∀ (s : State) (i : Nat) (a : Attr), SourcesSound s → i < 16 → (sourceAt s i).valid = true →
    classOf (sourceAt s i).sourceId s = (sourceAt s i).cls ∧
    rewrittenAttr (sourceAt s i).sourceId a s = ⟨a.u && !(sourceAt s i).forceOrdered, a.g && !(sourceAt s i).demote⟩) ∧
  (∀ (s : State) (src : SourceId) (a : Attr), (∀ i, i < 16 → (sourceAt s i).valid = true → (sourceAt s i).sourceId ≠ src) →
    classOf src s = 0 ∧ rewrittenAttr src a s = a) ∧
  ∀ (p : RequestPacket) (s : State),
    (rewrittenAttr p.source p.attr s = p.attr → rewriteRequest p s = p) ∧
    (rewrittenAttr p.source p.attr s ≠ p.attr → rewriteRequest p s =
      { p with
        attr := rewrittenAttr p.source p.attr s
        check := crc16 (reqHeader { p with attr := rewrittenAttr p.source p.attr s } ++ p.data) })

/-- R96: the byte at offset i of the fill data is the Fill Pattern's byte of its address's low four bits; an early refusal takes the
request's Address and Length, a late one the entry's, and a malformed read's response has none. -/
def Obligations.FillByAddress : Prop :=
  (∀ (a : Addr) (l : Nat) (s : State), (fillData a l s).length = l ∧
    ∀ i, i < l → (fillData a l s)[i]? = some (s.fill.get ((a.toNat + i) % 16) 0)) ∧
  (∀ (p : RequestPacket) (s : State), (earlyRefusal p s).length = p.length ∧
    (earlyRefusal p s).data = fillData p.address p.length.toNat s) ∧
  (∀ (e : OrtEntry) (s : State), (lateRefusal e s).length = e.length ∧
    (lateRefusal e s).data = fillData e.address e.length.toNat s) ∧
  (∀ p : RequestPacket, (malformedResponse p).length = 0 ∧ (malformedResponse p).data = []) ∧
  ∀ p : RequestPacket, classify p = .wellFormed → p.address.toNat + p.length.toNat ≤ 2 ^ 32

/-! ## Counters and events -/

/-- R117: a counter rises by one, up to its largest value, and leaves the others; a link reset's loss rises likewise. R109: a request of
Length 1 to 64 counts in the hit bin whose range contains it, and in no other. -/
def Obligations.CountersSaturate : Prop :=
  (∀ (n : Nat) (x : BitVec n), (satInc x).toNat = min (2 ^ n - 1) (x.toNat + 1)) ∧
  (∀ (n : Nat) (x : BitVec n) (k : Nat), (satAdd x k).toNat = min (2 ^ n - 1) (x.toNat + k)) ∧
  (∀ (k j : GlobalCounter) (g : Globals),
    globalValue j (countGlobal k g) = if j = k then satInc (globalValue j g) else globalValue j g) ∧
  ∀ (len : Nat) (k : RuleCounters), 1 ≤ len → len ≤ 64 →
    (countBin len k).blocked = k.blocked ∧
    ∀ i, i < 5 → ∀ top value, (bins k)[i]? = some (top, value) →
      (bins (countBin len k))[i]? = some (top, if len ≤ top ∧ (i = 0 ∨ top < 2 * len) then satInc value else value)

/-- R166: a raise makes its source pending, raises its count up to 255 and ORs the rules in for RULE_SIGNAL, and touches nothing else.
R168: EVT_n is asserted exactly while GE is set and some pending source's level is in Level Enable and below every level in service.
R165: the place in source order and the level of each of the eleven sources. -/
def Obligations.EventsPendAndDriveLine : Prop :=
  (∀ (src : EventSource) (m : RuleSet) (e : EventController),
    (eventRecord (raiseEvent src m e) src).pending = true ∧
    (eventRecord (raiseEvent src m e) src).count.toNat = min 255 ((eventRecord e src).count.toNat + 1) ∧
    (∀ other, other ≠ src → eventRecord (raiseEvent src m e) other = eventRecord e other) ∧
    (raiseEvent src m e).signalRules = (if src = .ruleSignal then e.signalRules ||| m else e.signalRules) ∧
    (raiseEvent src m e).levelEnable = e.levelEnable ∧ (raiseEvent src m e).globalEnable = e.globalEnable ∧
    (raiseEvent src m e).inService = e.inService) ∧
  (∀ e : EventController, evtAsserted e = true ↔ e.globalEnable = true ∧ ∃ src, (eventRecord e src).pending = true ∧
    e.levelEnable.getLsbD (eventLevel src) = true ∧ ∀ level, e.inService.getLsbD level = true → eventLevel src < level) ∧
  [EventSource.fire, .protocol, .damaged, .ringLoss, .overrun, .consumerInvalid, .ringIntrusion, .holdExpired, .readExpired, .stray,
    .ruleSignal].map (fun src => (eventIndex src, eventLevel src)) =
    [(0, 0), (1, 1), (2, 1), (3, 2), (4, 2), (5, 2), (6, 2), (7, 2), (8, 2), (9, 2), (10, 3)] ∧
  ∀ src : EventSource, src ∈ [EventSource.fire, .protocol, .damaged, .ringLoss, .overrun, .consumerInvalid, .ringIntrusion,
    .holdExpired, .readExpired, .stray, .ruleSignal]

/-! ## What reaches the link -/

/-- R1, R2: a request is damaged exactly when its check differs from the CRC over header and data, and otherwise malformed exactly when
one of the five things holds; a response is damaged exactly when one of its five does. -/
def Obligations.ArrivalClassified : Prop :=
  (∀ p : RequestPacket, classify p = .damaged ↔ p.check ≠ crc16 (reqHeader p ++ p.data)) ∧
  (∀ p : RequestPacket, classify p = .malformed ↔ p.check = crc16 (reqHeader p ++ p.data) ∧
    ((p.kind ≠ 0x01 ∧ p.kind ≠ 0x02) ∨ (p.length.toNat = 0 ∨ 64 < p.length.toNat) ∨
      64 < p.address.toNat % 64 + p.length.toNat ∨ (p.kind = 0x02 ∧ p.data.length ≠ p.length.toNat) ∨
      (p.kind = 0x01 ∧ p.data ≠ []))) ∧
  ∀ p : ResponsePacket, isDamagedResponse p = true ↔
    p.check ≠ crc16 (rspHeader p ++ p.data) ∨ (p.status ≠ 0x01 ∧ p.status ≠ 0x02 ∧ p.status ≠ 0x03) ∨
      p.data.length ≠ p.length.toNat ∨ 64 < p.length.toNat ∨ (p.status = 0x02 ∧ p.length ≠ 0)

/-- REQUEST_ARRIVAL of a packet the snoop does not see and RESPONSE_ARRIVAL, with room: the packet enters the tail of its buffer with its
classification and spends a credit, and a response's arrival is reported to the entry with its key (R83). With the link in reset or the
buffer full, nothing changes (R5, R8, R19). (Log 20 for the ledger of granted credits.) -/
def Obligations.ArrivalsBuffered : Prop :=
  (∀ (p : RequestPacket) (s : State), s.linkUp = true → s.near.buffer.length < 8 →
    ¬ (s.ring.config.state = .valid ∧ classify p = .wellFormed ∧ p.kind = kindWr ∧
        p.address.toNat < s.ring.config.consumerAddr.toNat + 4 ∧
        s.ring.config.consumerAddr.toNat < p.address.toNat + p.length.toNat) →
    exec (.requestArrival p) s = .next { s with near := { s.near with
      buffer := s.near.buffer ++ [⟨p, classify p⟩], granted := s.near.granted - 1 } }) ∧
  (∀ (p : ResponsePacket) (s : State), s.linkUp = true → s.far.buffer.length < 8 →
    exec (.responseArrival p) s = .next { s with
      far := { s.far with buffer := s.far.buffer ++ [⟨p, isDamagedResponse p⟩], granted := s.far.granted - 1 }
      ort := s.ort.map fun e => if e.source = p.source ∧ e.tag = p.tag then answerEntry s.time e else e }) ∧
  (∀ (now : Ticks) (e : OrtEntry),
    (e.phase = .created → answerEntry now e = { e with phase := .answered, arrivalTime := some now, earlyArrival := true }) ∧
    (e.phase = .timing → answerEntry now e = { e with phase := .answered, arrivalTime := some now }) ∧
    (e.phase = .answered ∨ isExpired e = true → answerEntry now e = e)) ∧
  (∀ (p : RequestPacket) (s : State), s.linkUp = false ∨ 8 ≤ s.near.buffer.length → exec (.requestArrival p) s = .next s) ∧
  ∀ (p : ResponsePacket) (s : State), s.linkUp = false ∨ 8 ≤ s.far.buffer.length → exec (.responseArrival p) s = .next s

/-- R138, R139, R143, R115: REQUEST_ARRIVAL of a well-formed write that covers a byte of the Consumer Word, with the ring VALID. It
enters the buffer. When it covers all four bytes and its candidate lies between C and P, C takes it, and OVERRUN and OverrunSeen
clear if OverrunSeen was set; what that does while an item is held is HeldReleasedWithRecord. Otherwise, whatever is held,
CONSUMER_INVALID is raised, and counted outside BYPASS. (Log 20 for the ledger of granted credits.)
-/
def Obligations.ConsumerUpdateTaken : Prop :=
  ∀ (p : RequestPacket) (s : State), s.linkUp = true → s.near.buffer.length < 8 → s.ring.config.state = .valid →
    classify p = .wellFormed → p.kind = kindWr →
    p.address.toNat < s.ring.config.consumerAddr.toNat + 4 → s.ring.config.consumerAddr.toNat < p.address.toNat + p.length.toNat →
    let off := s.ring.config.consumerAddr.toNat - p.address.toNat
    let c' : BitVec 16 := BitVec.ofNat 16 (leNat ((p.data.drop off).take 2))
    let near := { s.near with buffer := s.near.buffer ++ [⟨p, .wellFormed⟩], granted := s.near.granted - 1 }
    let taken := p.address.toNat ≤ s.ring.config.consumerAddr.toNat ∧
          s.ring.config.consumerAddr.toNat + 4 ≤ p.address.toNat + p.length.toNat ∧ (c' - s.ring.c).toNat ≤ (s.ring.p - s.ring.c).toNat
    (taken → holdOf .request s = none → holdOf .response s = none → exec (.requestArrival p) s = .next { s with
      near := near
      ring := { s.ring with c := c', overrun := s.ring.overrun && !s.ring.overrunSeen, overrunSeen := false } }) ∧
    (¬ taken → exec (.requestArrival p) s = .next { s with
      near := near
      events := raiseEvent .consumerInvalid 0 s.events
      counters := if s.ctrl.mode = .bypass then s.counters
        else { s.counters with globals := countGlobal .consumerInvalid s.counters.globals } })

/-- R103, R140: an accepted consumer update that leaves a slot free, while a request is held and no response is. The hold ends at that
event: the record takes HELD and its ticks, and enters the queue, or waits with its slot, and the request goes on as resolved. The same for
a held response while no request is held. While both are held and one slot is free, the one whose record was created first goes on in the same
way and the other stays held; with two or more slots free both go on, their records in the order of creation. (Logs 16, 18.) -/
def Obligations.HeldReleasedWithRecord : Prop :=
  ∀ (c' : BitVec 16) (s : State),
    let u := { s with ring := { s.ring with c := c', overrun := s.ring.overrun && !s.ring.overrunSeen, overrunSeen := false } }
    let open' : Prop := s.ring.queue.length < 4 ∧ waitingRecords s = 0
    let released (h : Hold) : Record := { h.record with held := true, heldTicks := (s.time - h.start).setWidth 16 }
    (∀ p, s.linkUp = true → s.near.buffer.length < 8 → s.ring.config.state = .valid → classify p = .wellFormed → p.kind = kindWr →
      p.address.toNat ≤ s.ring.config.consumerAddr.toNat →
      s.ring.config.consumerAddr.toNat + 4 ≤ p.address.toNat + p.length.toNat →
      c' = BitVec.ofNat 16 (leNat ((p.data.drop (s.ring.config.consumerAddr.toNat - p.address.toNat)).take 2)) →
      (c' - s.ring.c).toNat ≤ (s.ring.p - s.ring.c).toNat →
      exec (.requestArrival p) s = .next (acceptUpdate c' { s with near := { s.near with
        buffer := s.near.buffer ++ [⟨p, .wellFormed⟩], granted := s.near.granted - 1 } })) ∧
    (∀ h next, s.near.head = .held h next → holdOf .response s = none → reserved u < s.ring.config.slots →
      (open' → acceptUpdate c' s = continueRequest next { u with ring := queued (released h) u.ring }) ∧
      (¬ open' → acceptUpdate c' s = { u with near := { s.near with head := .waitRoom (released h) next } })) ∧
    (∀ h p, s.far.head = .held h p → holdOf .request s = none → reserved u < s.ring.config.slots →
      (open' → acceptUpdate c' s =
        { u with ring := queued (released h) u.ring, far := { s.far with head := .ready p } }) ∧
      (¬ open' → acceptUpdate c' s = { u with far := { s.far with head := .waitRoom (released h) p } })) ∧
    (∀ h next k p, s.near.head = .held h next → s.far.head = .held k p → reserved u + 1 = s.ring.config.slots →
      (createdBefore s.ring.seq k.record.seq h.record.seq = false →
        (open' → acceptUpdate c' s = continueRequest next { u with ring := queued (released h) u.ring }) ∧
        (¬ open' → acceptUpdate c' s = { u with near := { s.near with head := .waitRoom (released h) next } })) ∧
      (createdBefore s.ring.seq k.record.seq h.record.seq = true →
        (open' → acceptUpdate c' s = { u with ring := queued (released k) u.ring, far := { s.far with head := .ready p } }) ∧
        (¬ open' → acceptUpdate c' s = { u with far := { s.far with head := .waitRoom (released k) p } }))) ∧
    (∀ h next k p, s.near.head = .held h next → s.far.head = .held k p → reserved u + 2 ≤ s.ring.config.slots →
      let openTwo : Prop := s.ring.queue.length < 3 ∧ waitingRecords s = 0
      (¬ open' → acceptUpdate c' s = { u with
        near := { s.near with head := .waitRoom (released h) next }
        far := { s.far with head := .waitRoom (released k) p } }) ∧
      (createdBefore s.ring.seq k.record.seq h.record.seq = false →
        (openTwo → acceptUpdate c' s = continueRequest next { u with
          ring := queued (released k) (queued (released h) u.ring), far := { s.far with head := .ready p } }) ∧
        (open' → ¬ openTwo → acceptUpdate c' s = continueRequest next { u with
          ring := queued (released h) u.ring, far := { s.far with head := .waitRoom (released k) p } })) ∧
      (createdBefore s.ring.seq k.record.seq h.record.seq = true →
        (openTwo → acceptUpdate c' s = continueRequest next { u with
          ring := queued (released h) (queued (released k) u.ring), far := { s.far with head := .ready p } }) ∧
        (open' → ¬ openTwo → acceptUpdate c' s = { u with
          ring := queued (released k) u.ring
          near := { s.near with head := .waitRoom (released h) next }
          far := { s.far with head := .ready p } }))) ∧
    (s.ring.config.slots ≤ reserved u → acceptUpdate c' s = u)

/-! ## The head of the Request Buffer -/

/-- R9, R16: in BYPASS the head request, whatever its classification, and a head response without an entry are offered as they arrived;
nothing is counted, raised, tracked or evaluated. -/
def Obligations.BypassPassesPackets : Prop :=
  (∀ (b : BufferedRequest) (s : State), atHead b s → s.ctrl.mode = .bypass →
    exec .requestAtHead s = .next { s with near := { s.near with
      head := .ready { packet := b.packet, counted := false, tracked := false } } }) ∧
  ∀ (b : BufferedResponse) (s : State), responseAtHead b s → s.ctrl.mode = .bypass →
    findLive b.packet.source b.packet.tag s = none →
    exec .responseAtHead s = .next { s with far := { s.far with head := .ready b.packet } }

/-- R11, R40: outside BYPASS a damaged request is offered as it arrived; the Damaged Count of the VALID entry with its Source field, if
there is one, and the global Damaged counter rise, and DAMAGED is raised. R12, R13: a malformed request counts in Malformed and Refused and
raises PROTOCOL, twice if it bears the Monitor Source. A read waits with a REFUSED response of Length 0 and a good check; any other Kind is
dropped and returns its credit (log 20). Nothing else changes. -/
def Obligations.DamagedAndMalformedRequests : Prop :=
  (∀ (b : BufferedRequest) (s : State), atHead b s → s.ctrl.mode ≠ .bypass → b.cls = .damaged →
    Answers (exec .requestAtHead s) fun t =>
      (∀ i, i < 16 → sourceAt t i =
        if (sourceAt s i).valid = true ∧ (sourceAt s i).sourceId = b.packet.source then
          { sourceAt s i with damaged := satInc (sourceAt s i).damaged } else sourceAt s i) ∧
      t = { s with
        near := { s.near with head := .ready { packet := b.packet, counted := true, tracked := false } }
        sources := t.sources
        counters := { s.counters with globals := countGlobal .damaged s.counters.globals }
        events := raiseEvent .damaged 0 s.events }) ∧
  ∀ (b : BufferedRequest) (s : State), atHead b s → s.ctrl.mode ≠ .bypass → b.cls = .malformed →
    exec .requestAtHead s = .next { s with
      near := if b.packet.kind = kindRd then
          { s.near with head := (.waitRefusal (rspSealed
            { status := statusRefused, attr := b.packet.attr, source := b.packet.source, spare := 0, tag := b.packet.tag,
              length := 0, data := [], check := 0 }) false) }
        else leftNear s.near
      counters := { s.counters with globals := countGlobal .refused (countGlobal .malformed s.counters.globals) }
      events := raiseEvent .protocol 0
        (if b.packet.source = s.timers.monitorSource then raiseEvent .protocol 0 s.events else s.events) }

/-- R99, R100: a write intrudes exactly when the ring is VALID and one of its bytes lies in the ring area or the Producer Word. With
RingGuard on, an intruding write is dropped unevaluated: it leaves with its credit and counts in Intrusions and Refused, and
RING_INTRUSION is raised. -/
def Obligations.RingGuardDropsIntrusion : Prop :=
  (∀ (p : RequestPacket) (cfg : RingConfig), 0 < cfg.slots → 0 < p.length.toNat →
    (intrudes p cfg = true ↔ cfg.state = .valid ∧ ∃ k, k < p.length.toNat ∧
      ((cfg.base.toNat ≤ p.address.toNat + k ∧ p.address.toNat + k < cfg.base.toNat + cfg.slots * 128) ∨
        (cfg.producerAddr.toNat ≤ p.address.toNat + k ∧ p.address.toNat + k < cfg.producerAddr.toNat + 4)))) ∧
  ∀ (b : BufferedRequest) (s : State), wellFormedHead kindWr b s → intrudes b.packet s.ring.config = true →
    s.ring.config.guard = true →
    exec .requestAtHead s = .next { s with
      near := leftNear s.near
      counters := { s.counters with globals := countGlobal .refused (countGlobal .intrusions s.counters.globals) }
      events := raiseEvent .ringIntrusion 0
        (if b.packet.source = s.timers.monitorSource then raiseEvent .protocol 0 s.events else s.events) }

/-- R81: outside BYPASS a well-formed read whose key an entry holds, in any phase, is offered as it arrived, untracked; Duplicate Tag
counts and PROTOCOL is raised, twice if the read bears the Monitor Source (R13). The entry is not changed.
R58, R60: outside BYPASS a well-formed read that is no duplicate and has no no-data candidate with BLOCK goes on to step 5 with its
class, its rewritten packet, its data candidates as pending set and its other candidates; only a source clash is signalled. -/
def Obligations.ReadReachesHead : Prop :=
  (∀ (b : BufferedRequest) (s : State), wellFormedHead kindRd b s →
    (∃ e ∈ s.ort, e.source = b.packet.source ∧ e.tag = b.packet.tag) →
    exec .requestAtHead s = .next { s with
      near := { s.near with head := .ready { packet := b.packet, counted := true, tracked := false } }
      counters := { s.counters with globals := countGlobal .duplicateTag s.counters.globals }
      events := raiseEvent .protocol 0
        (if b.packet.source = s.timers.monitorSource then raiseEvent .protocol 0 s.events else s.events) }) ∧
  ∀ (b : BufferedRequest) (s : State), wellFormedHead kindRd b s → keyInOrt b.packet.source b.packet.tag s = false →
    let cand := candidates .rd (classOf b.packet.source s) b.packet s
    meets (cand &&& ~~~ dataRules s) (blockRules s) = false →
    exec .requestAtHead s = .next { s with
      near := { s.near with head := .waitOrt { packet := rewriteRequest b.packet s, cls := classOf b.packet.source s,
                                               pendingRules := cand &&& dataRules s, noData := cand &&& ~~~ dataRules s,
                                               bypassed := false } }
      events := if b.packet.source = s.timers.monitorSource then raiseEvent .protocol 0 s.events else s.events }

/-- R79, R80: the read at step 5 receives its entry while the table holds fewer than 32: the fields of R79, phase CREATED, orphaned
exactly if BYPASS was entered meanwhile; each pending rule's Use Count rises, and the read offers itself to the arbiter. While the table
is full nothing changes (log 4). -/
def Obligations.EntryCreated : Prop :=
  ∀ (w : WaitingRead) (b : BufferedRequest) (s : State), s.near.head = .waitOrt w → s.near.buffer.head? = some b →
    (s.ort.length < 32 → exec .ortEntryCreate s = .next { s with
      near := { s.near with head := .ready { packet := w.packet, counted := true, tracked := true } }
      rules := s.rules.mapIdx fun i r => if hasRule w.pendingRules i then { r with useCount := r.useCount + 1 } else r
      ort := s.ort ++ [{ source := b.packet.source, tag := b.packet.tag, address := b.packet.address, length := b.packet.length,
                         cls := w.cls, attr := b.packet.attr, pendingRules := w.pendingRules, noData := w.noData,
                         orphaned := w.bypassed, phase := .created, requestTime := none, limit := none, arrivalTime := none,
                         earlyArrival := false }] }) ∧
    (32 ≤ s.ort.length → exec .ortEntryCreate s = .next s)

/-- R59, R94, R97, R113: a read with a no-data candidate that has BLOCK is resolved as refused on its no-data candidates, with Outcome
REFUSED_EARLY, Latency 0 and no data, and its response carries its own key, Attr and Length, fill data and a good check. The response
enters the Refusal Queue when that holds fewer than 4, and the read leaves with its credit, counting in Refused unless it counted on
reaching the head. While the queue is full nothing changes (log 4). -/
def Obligations.ReadRefusedEarly : Prop :=
  (∀ (b : BufferedRequest) (s : State), wellFormedHead kindRd b s → keyInOrt b.packet.source b.packet.tag s = false →
    let noData := candidates .rd (classOf b.packet.source s) b.packet s &&& ~~~ dataRules s
    meets noData (blockRules s) = true →
    let response := rspSealed { status := statusRefused, attr := b.packet.attr, source := b.packet.source, spare := 0,
                                tag := b.packet.tag, length := b.packet.length,
                                data := fillData b.packet.address b.packet.length.toNat s, check := 0 }
    let o := resolve noData { kind := .rd, source := b.packet.source, tag := b.packet.tag, cls := classOf b.packet.source s,
                              attr := b.packet.attr, address := b.packet.address, length := b.packet.length,
                              outcome := .refusedEarly, latency := 0, data := [] } true (clashed b.packet s)
    exec .requestAtHead s = .next (captureRequest o.2 (.refuse response) o.1)) ∧
  ∀ (r : ResponsePacket) (counts : Bool) (s : State), s.near.head = .waitRefusal r counts →
    (s.near.refusals.length < 4 → exec .refusalQueueAdmit s = .next { s with
      near := leftNear { s.near with refusals := s.near.refusals ++ [r] }
      counters := if counts then { s.counters with globals := countGlobal .refused s.counters.globals } else s.counters }) ∧
    (4 ≤ s.near.refusals.length → exec .refusalQueueAdmit s = .next s)

/-- R57, R64, R93, R99, R100: outside BYPASS a well-formed write that RingGuard does not drop is resolved at the head on its match set,
refused exactly if that holds a BLOCK rule; its record, if it needs one, is then offered. Afterwards a refused write leaves, and any other
is offered to the arbiter as rewritten. An intrusion is counted and signalled first. -/
def Obligations.WriteResolved : Prop :=
  ∀ (b : BufferedRequest) (s : State), wellFormedHead kindWr b s →
    ¬ (intrudes b.packet s.ring.config = true ∧ s.ring.config.guard = true) →
    let s' := if intrudes b.packet s.ring.config = true then raise .ringIntrusion (count .intrusions (clashed b.packet s))
      else clashed b.packet s
    let m := writeMatchSet (classOf b.packet.source s) b.packet s
    let refused := meets m (blockRules s)
    let o := resolve m { kind := .wr, source := b.packet.source, tag := b.packet.tag, cls := classOf b.packet.source s,
                         attr := b.packet.attr, address := b.packet.address, length := b.packet.length,
                         outcome := if refused then .refusedEarly else .forwarded, latency := 0, data := b.packet.data } refused s'
    exec .requestAtHead s = .next (captureRequest o.2
      (if refused then .drop else .forward { packet := rewriteRequest b.packet s, counted := true, tracked := false }) o.1)

/-! ## Resolution -/

/-- R64, R65, R109: outside ACTIVE a resolution counts in Blocked, for each matched BLOCK rule of a refused transaction, and does
nothing else: no hit bin, no SIGNAL, no sequencer, no record. -/
def Obligations.FrozenResolution : Prop :=
  ∀ (m : RuleSet) (x : Transaction) (refused : Bool) (s : State), s.ctrl.mode ≠ .active →
    resolve m x refused s = ({ s with counters := { s.counters with perRule := (s.counters.perRule.mapIdx fun i k =>
      if hasRule m i = true ∧ refused = true ∧ (ruleAt s i).defn.actions.block = true then { k with blocked := satInc k.blocked }
      else k) } }, none)

/-- R65 to R68, R109, R129, R130, R160: in ACTIVE, when the match set does not fire the sequencer, each matched rule counts in its hit
bin (and in Blocked), RULE_SIGNAL is raised once with the SIGNAL rules, the sequencer takes the state the match set gives, and a record is
made exactly if a matched rule captures. Its Seq is the next one, its data those of the transaction if a WITH_DATA rule captured, its
POST flag is set in POST, and then it counts towards FIRED. -/
def Obligations.ActiveResolution : Prop :=
  ∀ (m : RuleSet) (x : Transaction) (refused : Bool) (s : State) (q : SeqState), s.ctrl.mode = .active →
    takeMatch m s.time s.seqr = some q →
    let u : State := { s with
      counters := { s.counters with perRule := (s.counters.perRule.mapIdx fun i k =>
        if hasRule m i then
          if refused = true ∧ (ruleAt s i).defn.actions.block = true then
            { countBin x.length.toNat k with blocked := satInc (countBin x.length.toNat k).blocked }
          else countBin x.length.toNat k
        else k) }
      events := if meets m (signalRules s) then raiseEvent .ruleSignal (m &&& signalRules s) s.events else s.events
      seqr := { s.seqr with state := q } }
    let data := if meets m (withDataRules s) then x.data else []
    let r : Record := { seq := s.ring.seq, time := s.time, source := x.source, tag := x.tag, cls := x.cls, kind := x.kind,
                        attr := x.attr, address := x.address, length := x.length, outcome := x.outcome, matchSet := m, fire := false,
                        post := inPost q, held := false, latency := x.latency, heldTicks := 0,
                        dataCount := BitVec.ofNat 8 data.length, data := data }
    (meets m (captureRules s) = false → resolve m x refused s = (u, none)) ∧
    (meets m (captureRules s) = true →
      resolve m x refused s = (countPost { u with ring := { s.ring with seq := s.ring.seq + 1 } }, some r)) ∧
    (∀ n v, v.seqr.state = .post n → 2 ≤ n → countPost v = { v with seqr := { v.seqr with state := .post (n - 1) } }) ∧
    (∀ v, v.seqr.state = .post 1 → countPost v = { v with
      seqr := { v.seqr with state := .fired }
      ctrl := { v.ctrl with freezeRequests := v.ctrl.freezeRequests + (if v.seqr.settings.freeze then 1 else 0) } }) ∧
    ∀ v, inPost v.seqr.state = false → countPost v = v

/-- R154: in RUN a match set that meets the Abort Rules restarts the train; otherwise one that meets the stage's rules raises the progress,
completes the stage at its Count, and in the last stage in use fires; any other changes nothing, and in OFF, POST and FIRED none does. A
stage entered has progress 0 and starts its window if it has one. -/
def Obligations.SequencerTakesMatch : Prop :=
  (∀ (m : RuleSet) (now : Ticks) (g : Sequencer) (k progress : Nat) (ws : Option Ticks), g.state = .run k progress ws →
    takeMatch m now g =
      if meets m g.settings.abortRules = true then some (enterStage 0 now g)
      else if meets m (stageAt g k).rules = false then some g.state
      else if progress + 1 < (stageAt g k).count.toNat then some (.run k (progress + 1) ws)
      else if k + 1 < g.settings.stagesInUse then some (enterStage (k + 1) now g)
      else none) ∧
  (∀ (m : RuleSet) (now : Ticks) (g : Sequencer), (∀ k progress ws, g.state ≠ .run k progress ws) →
    takeMatch m now g = some g.state) ∧
  ∀ (k : Nat) (now : Ticks) (g : Sequencer),
    enterStage k now g = .run k 0 (if (stageAt g k).window = 0 then none else some now)

/-- R158 to R162: in ACTIVE, a match set that completes the last stage fires: its record is made whatever its rules' Actions, with FIRE set
and POST clear; an empty Fire Snapshot takes it with the Reset Count and its data cut or filled to 32 bytes; MARK goes high if asked; FIRE
is raised; and the state becomes POST, or FIRED at once with a freeze request if FREEZE is asked and Post Count is 0. (Logs 15, 24.) -/
def Obligations.FiringRecorded : Prop :=
  ∀ (m : RuleSet) (x : Transaction) (refused : Bool) (s : State), s.ctrl.mode = .active → takeMatch m s.time s.seqr = none →
    let data := if meets m (withDataRules s) then x.data else []
    let r : Record := { seq := s.ring.seq, time := s.time, source := x.source, tag := x.tag, cls := x.cls, kind := x.kind,
                        attr := x.attr, address := x.address, length := x.length, outcome := x.outcome, matchSet := m, fire := true,
                        post := false, held := false, latency := x.latency, heldTicks := 0,
                        dataCount := BitVec.ofNat 8 data.length, data := data }
    let signalled := if meets m (signalRules s) then raiseEvent .ruleSignal (m &&& signalRules s) s.events else s.events
    (resolve m x refused s).2 = some r ∧
    (resolve m x refused s).1 = { s with
      counters := (countRules m x.length.toNat refused s).counters
      events := raiseEvent .fire 0 signalled
      ring := { s.ring with seq := s.ring.seq + 1 }
      ctrl := { s.ctrl with freezeRequests := s.ctrl.freezeRequests +
        (if s.seqr.settings.postCount = 0 ∧ s.seqr.settings.freeze = true then 1 else 0) }
      seqr := { s.seqr with
        state := if s.seqr.settings.postCount = 0 then .fired else .post s.seqr.settings.postCount
        markFiredAt := if s.seqr.settings.mark then some s.time else s.seqr.markFiredAt
        snapshot := match s.seqr.snapshot with
          | some y => some y
          | none => some { resetCount := s.port.resetCount,
                           record := { r with data := data.take 32 ++ List.replicate (32 - data.length) 0 } } } }

/-- R127, R128, R131, R133, R93, R94: an offered record with OVERRUN clear and a slot free enters the queue in slot (P + Q) mod Slots, or
waits with its slot while the queue is full or another waits; in LOSSLESS mode its transaction is held from now for the HoldLimit in
force; in LOSSY mode it is dropped and the transaction goes on. A request goes on to the arbiter, leaves counted as refused, or waits for
the Refusal Queue. A slot is free while (P − C) + Q + W is below Slots. -/
def Obligations.RecordOffered : Prop :=
  (∀ (r : Record) (next : AfterCapture) (s : State), captureRequest (some r) next s =
    if s.ring.overrun = false ∧ slotFree s = true then
      if s.ring.queue.length < 4 ∧ waitingRecords s = 0 then continueRequest next { s with ring := queued r s.ring }
      else { s with near := { s.near with head := .waitRoom r next } }
    else if s.ring.config.mode = .lossless then
      { s with near := { s.near with head := .held { record := r, start := s.time, limit := s.timers.holdLimit } next } }
    else continueRequest next (dropped s)) ∧
  (∀ (r : Record) (p : ResponsePacket) (s : State), captureResponse (some r) p s =
    if s.ring.overrun = false ∧ slotFree s = true then
      if s.ring.queue.length < 4 ∧ waitingRecords s = 0 then
        { s with ring := queued r s.ring, far := { s.far with head := .ready p } }
      else { s with far := { s.far with head := .waitRoom r p } }
    else if s.ring.config.mode = .lossless then
      { s with far := { s.far with head := .held { record := r, start := s.time, limit := s.timers.holdLimit } p } }
    else { dropped s with far := { s.far with head := .ready p } }) ∧
  (∀ (next : AfterCapture) (p : ResponsePacket) (s : State), captureRequest none next s = continueRequest next s ∧
    captureResponse none p s = { s with far := { s.far with head := .ready p } }) ∧
  (∀ (s : State) (f : Forwarding) (p : ResponsePacket),
    continueRequest (.forward f) s = { s with near := { s.near with head := .ready f } } ∧
    continueRequest .drop s = { s with
      near := leftNear s.near
      counters := { s.counters with globals := countGlobal .refused s.counters.globals } } ∧
    continueRequest (.refuse p) s = { s with near := { s.near with head := .waitRefusal p true } }) ∧
  ∀ s : State, slotFree s = true ↔ (s.ring.p - s.ring.c).toNat + s.ring.queue.length +
    ((headWaitsForRoom s.near.head).toNat + (responseWaitsForRoom s.far.head).toNat + s.ort.countP isExpired) < s.ring.config.slots

/-! ## The head of the Response Buffer -/

/-- R15, R40, R84: outside BYPASS a head response whose key no entry outside EXPIRED holds is stray: it counts, raises STRAY and is offered
as it arrived; a damaged one also counts in Damaged and at its source and raises DAMAGED. -/
def Obligations.StrayDelivered : Prop :=
  (∀ (b : BufferedResponse) (s : State), responseAtHead b s → s.ctrl.mode ≠ .bypass →
    (∀ e ∈ s.ort, e.source = b.packet.source → e.tag = b.packet.tag → isExpired e = true) →
    let s' := raise .stray (count .strayResponses s)
    (b.damaged = false → exec .responseAtHead s = .next { s' with far := { s.far with head := .ready b.packet } }) ∧
    (b.damaged = true → exec .responseAtHead s = .next
      { countDamaged b.packet.source s' with far := { s.far with head := .ready b.packet } })) ∧
  ∀ (src : SourceId) (s : State),
    countDamaged src s = { s with
      sources := (countDamaged src s).sources
      counters := { s.counters with globals := countGlobal .damaged s.counters.globals }
      events := raiseEvent .damaged 0 s.events } ∧
    ∀ i, i < 16 → sourceAt (countDamaged src s) i =
      if (sourceAt s i).valid = true ∧ (sourceAt s i).sourceId = src then
        { sourceAt s i with damaged := satInc (sourceAt s i).damaged } else sourceAt s i

/-- R16, R39, R63, R88: in every mode a head response that finds an orphaned entry removes it and leaves with the entry's Attr; outside
BYPASS a damaged one, or an OK one of another Length, counts as damaged; nothing else follows. R4: the restored packet keeps every field
but Attr and check, is unchanged where the Attr agreed, and fails its check exactly if it did before; a changed one
carries the check computed over its new contents if its check was good, and the complement of that if it was bad. -/
def Obligations.OrphanRestored : Prop :=
  (∀ (b : BufferedResponse) (e : OrtEntry) (s : State), responseAtHead b s → findLive b.packet.source b.packet.tag s = some e →
    e.orphaned = true →
    let s' := if s.ctrl.mode ≠ .bypass ∧
        (b.damaged = true ∨ (b.packet.status = statusOk ∧ b.packet.length ≠ e.length)) then countDamaged b.packet.source s else s
    exec .responseAtHead s = .next
      { withoutEntry e s' with far := { s.far with head := .ready (restoreAttr e.attr b.packet) } }) ∧
  ∀ (a : Attr) (p : ResponsePacket),
    restoreAttr a p = { p with attr := a, check := (restoreAttr a p).check } ∧ (p.attr = a → restoreAttr a p = p) ∧
    rspGoodCheck (restoreAttr a p) = rspGoodCheck p ∧
    (p.attr ≠ a → (restoreAttr a p).check =
      if p.check = crc16 (rspHeader p ++ p.data) then crc16 (rspHeader { p with attr := a } ++ p.data)
      else ~~~ crc16 (rspHeader { p with attr := a } ++ p.data))

/-- R14, R61, R64, R68, R84, R98: outside BYPASS a head response that finds a tracked entry resolves it. The entry is removed and its
pending rules leave the Use Counts; the match set decides refusal; a refused read counts in Refused and its response is replaced by a
REFUSED one with fill data, any other has its Attr restored; the resolution carries the entry's fields, its Latency, the outcome of the
response and its data, and the record, if one is made, is offered. A damaged response, or an OK one of another Length, is counted. (Logs 16,
23 for the Latency.) -/
def Obligations.TrackedReadResolved : Prop :=
  (∀ (b : BufferedResponse) (e : OrtEntry) (s : State), responseAtHead b s → s.ctrl.mode ≠ .bypass →
    findLive b.packet.source b.packet.tag s = some e → e.orphaned = false →
    let mismatch := b.damaged = false ∧ b.packet.status = statusOk ∧ b.packet.length ≠ e.length
    let tested := b.damaged = false ∧ b.packet.status = statusOk ∧ b.packet.length = e.length
    let s₁ := if b.damaged = true ∨ mismatch then countDamaged b.packet.source s else s
    let m := responseMatchSet b e s
    let refused := meets m (blockRules s)
    let s₂ := if refused then count .refused (withoutEntry e s₁) else withoutEntry e s₁
    let o := resolve m { kind := .rd, source := e.source, tag := e.tag, cls := e.cls, attr := e.attr, address := e.address,
                         length := e.length,
                         outcome := if refused then .refusedLate else if tested then .forwarded
                           else if b.damaged = true ∨ mismatch then .responseDamaged else .memoryFault,
                         latency := latencyOf e, data := if tested then b.packet.data else [] } refused s₂
    let response := if refused then
        rspSealed { status := statusRefused, attr := e.attr, source := e.source, spare := 0, tag := e.tag, length := e.length,
                    data := fillData e.address e.length.toNat s, check := 0 }
      else restoreAttr e.attr b.packet
    exec .responseAtHead s = .next (captureResponse o.2 response o.1)) ∧
  (∀ (e : OrtEntry) (sent arrived : Ticks), e.earlyArrival = false → e.requestTime = some sent → e.arrivalTime = some arrived →
    latencyOf e = (arrived - sent).setWidth 16) ∧
  ∀ e : OrtEntry, e.earlyArrival = true ∨ e.requestTime = none ∨ e.arrivalTime = none → latencyOf e = 0

/-! ## Waiting records and expiry -/

/-- R107, R134: with room in the Capture Queue, the waiting record that was created first enters it, and its request goes on, its response
is offered, or its EXPIRED entry is removed. With the queue full, or none waiting, nothing changes (log 4; log 12 for the wrap of Seq). -/
def Obligations.WaitingRecordAdmitted : Prop :=
  (∀ (w : Waiter) (s : State), s.ring.queue.length < 4 → firstWaiter s.ring.seq (waiters s) = some w →
    exec .captureQueueAdmit s = .next (match w with
      | .request r next => continueRequest next { s with ring := queued r s.ring }
      | .response r p => { s with ring := queued r s.ring, far := { s.far with head := .ready p } }
      | .entry r e => { s with
          ring := queued r s.ring
          ort := s.ort.eraseP (holdsKeyExpired e.source e.tag)
          rules := rulesWithout e.pendingRules s.rules })) ∧
  (∀ (next : BitVec 32) (ws : List Waiter) (w : Waiter), firstWaiter next ws = some w →
    w ∈ ws ∧ ∀ v ∈ ws, createdBefore next (waiterSeq v) (waiterSeq w) = false) ∧
  (∀ (next : BitVec 32) (ws : List Waiter), firstWaiter next ws = none ↔ ws = []) ∧
  (∀ s : State,
    (∀ r next, Waiter.request r next ∈ waiters s ↔ s.near.head = .waitRoom r next) ∧
    (∀ r p, Waiter.response r p ∈ waiters s ↔ s.far.head = .waitRoom r p) ∧
    ∀ r e, Waiter.entry r e ∈ waiters s ↔ e ∈ s.ort ∧ e.phase = .expired r) ∧
  ∀ s : State, 4 ≤ s.ring.queue.length ∨ waiters s = [] → exec .captureQueueAdmit s = .next s

/-- R85, R86, R88: when the timer of the live entry with the key has run out, an orphaned entry is removed and nothing else changes. A
tracked one is resolved on its no-data candidates with Outcome EXPIRED, its Limit as Latency and no data; outside BYPASS Read Expiries
counts and READ_EXPIRED is raised. Without a record the entry is removed. A record takes a free slot and enters the queue, or the entry
passes to EXPIRED with it and an empty pending set; with no slot, or under OVERRUN, it is lost, and in LOSSY mode dropped. An entry that
is not due does not expire (logs 4, 5). -/
def Obligations.ReadExpires : Prop :=
  (∀ (src : SourceId) (tag : Tag) (e : OrtEntry) (s : State), findLive src tag s = some e → Due s.time e → e.orphaned = true →
    exec (.readTimerExpiry src tag) s = .next (withoutEntry e s)) ∧
  (∀ (src : SourceId) (tag : Tag) (e : OrtEntry) (s : State), findLive src tag s = some e → Due s.time e → e.orphaned = false →
    let s' := if s.ctrl.mode = .bypass then s else raise .readExpired (count .readExpiries s)
    let o := resolve e.noData { kind := .rd, source := e.source, tag := e.tag, cls := e.cls, attr := e.attr, address := e.address,
                                length := e.length, outcome := .expired, latency := e.limit.getD 0, data := [] } false s'
    let t := o.1
    exec (.readTimerExpiry src tag) s = .next (match o.2 with
      | none => withoutEntry e t
      | some r =>
        if s.ring.overrun = false ∧ slotFree s = true then
          if s.ring.queue.length < 4 ∧ waitingRecords s = 0 then withoutEntry e { t with ring := queued r t.ring }
          else { t with
            ort := t.ort.map fun x =>
              if x.source = e.source ∧ x.tag = e.tag then { x with phase := .expired r, pendingRules := 0 } else x
            rules := rulesWithout e.pendingRules t.rules }
        else if s.ring.config.mode = .lossless then withoutEntry e (lost t)
        else withoutEntry e (dropped t))) ∧
  (∀ (src : SourceId) (tag : Tag) (s : State), (∀ e, findLive src tag s = some e → ¬ Due s.time e) →
    exec (.readTimerExpiry src tag) s = .next s) ∧
  ∀ (src : SourceId) (tag : Tag) (e : OrtEntry) (s : State), findLive src tag s = some e →
    e ∈ s.ort ∧ e.source = src ∧ e.tag = tag ∧ isExpired e = false

/-! ## The arbiters -/

/-- R7, R17, R82, R112: with the link up and a credit, the offered request wins alone, or against the Capture Writer if that won last. It is
sent, spends a credit, sets the flag and leaves with its credit returned; if it reached the head outside BYPASS it counts as forwarded, as a
read by its Kind field RD and as a write otherwise; if it has an entry, the entry's timer starts unless it is already ANSWERED. (Log 9 for
the record of the packets sent, log 20 for the credits granted.) -/
def Obligations.RequestGranted : Prop :=
  (∀ (f : Forwarding) (s : State), s.linkUp = true → 0 < s.far.credits → s.near.head = .ready f →
    s.ring.writer = .idle ∨ s.far.lastWinner = .writer →
    exec .farPortGrant s = .next { s with
      near := leftNear s.near
      far := { s.far with credits := s.far.credits - 1, lastWinner := .request, sent := s.far.sent ++ [f.packet] }
      counters := if f.counted then { s.counters with globals :=
          (countGlobal (if f.packet.kind = kindRd then .forwardedReads else .forwardedWrites)
            (countGlobal .forwardedRequests s.counters.globals)) }
        else s.counters
      ort := if f.tracked then s.ort.map fun e =>
          if e.source = f.packet.source ∧ e.tag = f.packet.tag then startTimer s.time s.timers.readTimeout e else e
        else s.ort }) ∧
  ∀ (now : Ticks) (limit : BitVec 16) (e : OrtEntry),
    (e.phase = .created → startTimer now limit e = { e with phase := .timing, requestTime := some now, limit := some limit }) ∧
    (e.phase = .answered → e.requestTime = none → startTimer now limit e = { e with requestTime := some now, limit := some limit }) ∧
    (e.phase = .timing ∨ isExpired e = true → startTimer now limit e = e)

/-- R17, R125, R128, R135, R136, R184: with the link up, an IDLE writer takes the head record and presents its first write. At a grant, won
alone or against a request that won last, the packet is sent with a credit and the writer goes on: FIRST to SECOND for a DataCount above 32
and else to PRODUCER, SECOND to PRODUCER, PRODUCER to IDLE with the record published, or with the SET_RING completed. The packets carry the
Monitor Source, a slot's address and the record's bytes. Without credit or link nothing is granted. (Logs 4, 9.) -/
def Obligations.WriterAdvances : Prop :=
  (∀ (q : QueuedRecord) (s : State), s.ring.writer = .idle → s.ring.queue.head? = some q → s.linkUp = true →
    exec .captureWriterStart s = .next { s with ring := { s.ring with writer := (.first
      (ownWrite (s.ring.config.base + BitVec.ofNat 32 (128 * q.slot)) (firstWriteData q.record) s)) } }) ∧
  (∀ (p : RequestPacket) (s : State), s.linkUp = true → 0 < s.far.credits → presentedPacket s.ring.writer = some p →
    offeredRequest s = none ∨ s.far.lastWinner = .request →
    let far := { s.far with credits := s.far.credits - 1, lastWinner := .writer, sent := s.far.sent ++ [p] }
    let producer : Writer := .producer (ownWrite s.ring.config.producerAddr (le32 ((s.ring.p + 1).setWidth 32)) s) false
    (∀ q, s.ring.writer = .first p → s.ring.queue.head? = some q →
      exec .farPortGrant s = .next { s with
        far := far
        ring := { s.ring with writer := (if 32 < q.record.dataCount.toNat then
            .second (ownWrite (s.ring.config.base + BitVec.ofNat 32 (128 * q.slot) + 64) (secondWriteData q.record) s)
          else producer) } }) ∧
    (s.ring.writer = .second p → exec .farPortGrant s = .next { s with far := far, ring := { s.ring with writer := producer } }) ∧
    (s.ring.writer = .producer p false → exec .farPortGrant s = .next { s with
      far := far
      ring := { s.ring with p := s.ring.p + 1, queue := s.ring.queue.tail, writer := .idle } }) ∧
    (s.ring.writer = .producer p true → exec .farPortGrant s = .next { s with
      far := far
      ring := { s.ring with config := { s.ring.config with state := .valid }, writer := .idle }
      port := { s.port with slot := .doneOk } })) ∧
  (∀ (a : Addr) (data : List Byte) (s : State), ownWrite a data s = reqSealed
    { kind := 0x02, attr := ⟨false, false⟩, source := s.timers.monitorSource, spare := 0, tag := 0,
      length := BitVec.ofNat 8 data.length, address := a, data := data, check := 0 } ∧
    reqGoodCheck (ownWrite a data s) = true) ∧
  (∀ r : Record, (firstWriteData r).length = 64 ∧ (secondWriteData r).length = 32 ∧
    firstWriteData r = le32 r.seq ++ le32 r.time ++ le32 r.address ++ le32 r.matchSet ++
      [r.source.setWidth 8, r.cls.setWidth 8, r.tag.setWidth 8, if r.kind = .rd then 0x01 else 0x02,
       bitsByte r.attr.u r.attr.g false, r.length, outcomeByte r.outcome, bitsByte r.fire r.post r.held] ++
      le16 r.latency ++ le16 r.heldTicks ++ [r.dataCount, 0, 0, 0] ++
      r.data.take 32 ++ List.replicate (32 - r.data.length) 0 ∧
    secondWriteData r = (r.data.drop 32).take 32 ++ List.replicate (32 - (r.data.drop 32).length) 0) ∧
  ∀ s : State, s.linkUp = false ∨ s.far.credits = 0 → exec .farPortGrant s = .next s

/-- R6, R8, R18: with the link up and a credit, the memory response wins alone or against the Refusal Queue if that won last, and the other
way round. The winner is sent, spends a credit and sets the flag; the memory response frees its entry and returns a credit, the other leaves
the Refusal Queue. Without credit, link or contender nothing is granted. (Logs 4, 9, 20.) -/
def Obligations.ResponseGranted : Prop :=
  (∀ (p : ResponsePacket) (s : State), s.linkUp = true → 0 < s.near.credits → s.far.head = .ready p →
    s.near.refusals = [] ∨ s.near.lastWinner = .refusalQueue →
    exec .nearPortResponseGrant s = .next { s with
      near := { s.near with credits := s.near.credits - 1, lastWinner := .memory, sent := s.near.sent ++ [p] }
      far := { s.far with buffer := s.far.buffer.tail, head := .fresh, granted := s.far.granted + 1 } }) ∧
  (∀ (p : ResponsePacket) (rest : List ResponsePacket) (s : State), s.linkUp = true → 0 < s.near.credits →
    s.near.refusals = p :: rest → (∀ q, s.far.head ≠ .ready q) ∨ s.near.lastWinner = .memory →
    exec .nearPortResponseGrant s = .next { s with near := { s.near with
      credits := s.near.credits - 1, refusals := rest, lastWinner := .refusalQueue, sent := s.near.sent ++ [p] } }) ∧
  ∀ s : State, s.linkUp = false ∨ s.near.credits = 0 ∨ ((∀ q, s.far.head ≠ .ready q) ∧ s.near.refusals = []) →
    exec .nearPortResponseGrant s = .next s

/-! ## Time -/

/-- R104: when a held item's Hold Limit has passed, it goes on as resolved without its record: Hold Expiries counts, HOLD_EXPIRED is
raised, Ring Loss rises and RING_LOSS is raised. Earlier, or with nothing held on that side, nothing changes (logs 4, 5). -/
def Obligations.HoldRunsOut : Prop :=
  ∀ s : State,
    let u : State := { s with
      counters := { s.counters with globals := countGlobal .holdExpiries s.counters.globals }
      ring := { s.ring with loss := satInc s.ring.loss }
      events := raiseEvent .ringLoss 0 (raiseEvent .holdExpired 0 s.events) }
    (∀ h next, s.near.head = .held h next → h.limit.toNat ≤ (s.time - h.start).toNat →
      exec (.holdExpiry .request) s = .next (continueRequest next u)) ∧
    (∀ h p, s.far.head = .held h p → h.limit.toNat ≤ (s.time - h.start).toNat →
      exec (.holdExpiry .response) s = .next { u with far := { s.far with head := .ready p } }) ∧
    ∀ side, (∀ h, holdOf side s = some h → (s.time - h.start).toNat < h.limit.toNat) → exec (.holdExpiry side) s = .next s

/-- R24: TIME_TICK advances Time by one modulo 2^32 in every mode, and Time stands while the part is held in power-on or board reset (log
17). R156: a stage window that has run out restarts the train or stops it. R159: MARK returns low at the second tick. R29: a freeze request
makes ACTIVE FROZEN, with its entry effects, and changes no other mode. That these effects release every held item without its record, the
one whose own record fired or completed the post count included, is the model's choice against R160's words (log 25). Before they are due, or
with none, nothing changes (logs 4, 5). (Logs 15, 24.) -/
def Obligations.TimeAndFreeze : Prop :=
  (∀ s : State, s.pins.power = false → s.pins.board = false → exec .timeTick s = .next { s with time := s.time + 1 }) ∧
  (∀ s : State, s.pins.power = true ∨ s.pins.board = true → exec .timeTick s = .next s) ∧
  (∀ (k progress : Nat) (start : Ticks) (s : State), s.seqr.state = .run k progress (some start) →
    exec .stageWindowExpiry s = .next (
      if (stageAt s.seqr k).window.toNat ≤ (s.time - start).toNat then
        { s with seqr := { s.seqr with state :=
          (if (stageAt s.seqr k).onExpiry = .restart then
            .run 0 0 (if (stageAt s.seqr 0).window = 0 then none else some s.time)
          else .off) } }
      else s)) ∧
  (∀ s : State, (∀ k progress start, s.seqr.state ≠ .run k progress (some start)) → exec .stageWindowExpiry s = .next s) ∧
  (∀ (start : Ticks) (s : State), s.seqr.markFiredAt = some start →
    exec .markPulseEnd s = .next (if 2 ≤ (s.time - start).toNat then { s with seqr := { s.seqr with markFiredAt := none } } else s)) ∧
  (∀ s : State, s.seqr.markFiredAt = none → exec .markPulseEnd s = .next s) ∧
  (∀ s : State, 0 < s.ctrl.freezeRequests →
    let u := { s with ctrl := { s.ctrl with freezeRequests := s.ctrl.freezeRequests - 1 } }
    (s.ctrl.mode = .active → exec .freezeRequest s = .next (enterMode .frozen u)) ∧
    (s.ctrl.mode ≠ .active → exec .freezeRequest s = .next u)) ∧
  ∀ s : State, s.ctrl.freezeRequests = 0 → exec .freezeRequest s = .next s

/-! ## The Management port -/

/-- R174, R179, R178, R176, R182: a frame cut short before the check byte of a known command is complete adds to the Frame Fault count and
sets LAST_FRAME_ABORTED; one with no bit does not. An unknown code reads BAD_COMMAND on every byte after it and changes nothing. A bad check
reads BAD_CHECK and executes nothing, for every one of the 27 commands. 0 was driven for every bit the host sent, and SDO is high impedance
once SEL_n is high. Where the port can take no such frame, nothing changes (log 4); bits or a code of no such frame are refused by name
(log 19). (Log 8 for what a frame is, log 9 for the record of the bits read.) -/
def Obligations.BrokenFramesExecuteNothing : Prop :=
  let atRest (sckHigh : Bool) : SerialLink := { selLow := false, sckHigh := sckHigh, frame := .absent, sdo := none, read := [] }
  (∀ (bits : List Bool) (s : State), portReady bits s = true → reception bits = .incomplete → 1 ≤ bits.length →
    ∀ after, exec (.frameAbort bits after) s = .next { s with port := portEdges after { s.port with
      frameFault := if s.port.frameFault = 255 then 255 else s.port.frameFault + 1
      lastFrameAborted := true
      link := atRest false
      sdo := recordedFrames s.port ++ [List.replicate bits.length false] } }) ∧
  (∀ s : State, portReady [] s = true → ∀ after, exec (.frameAbort [] after) s = .next { s with port := portEdges after { s.port with
    link := atRest false, sdo := recordedFrames s.port } }) ∧
  (∀ bits : List Bool, reception bits = .incomplete ↔ bits.length < 8 ∨
    ∃ cmd, codeOf cmd = byteOfBits (bits.take 8) ∧ bits.length < 8 * (1 + paramCount cmd + 1)) ∧
  (∀ (code : Byte) (s : State), portReady (byteBits code) s = true → (∀ cmd, codeOf cmd ≠ code) →
    (∀ after, exec (.badCommand code after) s = .next { s with port :=
      (portEdges after (startSending [] 0x03 (received (byteBits code) s.port))) }) ∧
    ∀ sdi, exec (.badCommand code (clockOut sdi ++ [.selRise])) s = .next { s with port := { s.port with
      link := atRest true
      sdo := recordedFrames s.port ++
        [List.replicate 8 false ++ (bytesBits (List.replicate sdi.length 0x03)).take sdi.length] } }) ∧
  (∀ (c : Instr) (cmd : MgmtCommand) (params : List Byte) (tail : FrameTail) (s : State), frameOf c = some (cmd, params, tail) →
    (portReady (frameBits cmd params tail.check) s = true → crc8 (codeOf cmd :: params) ≠ tail.check →
      exec c s = .next (replied c .badCheck [] s)) ∧
    (portReady (frameBits cmd params tail.check) s = false → exec c s = .next s)) ∧
  (∀ (bits : List Bool) (after : List PortEdge) (s : State),
    (reception bits = .incomplete → portReady bits s = false → exec (.frameAbort bits after) s = .next s) ∧
    (reception bits ≠ .incomplete → exec (.frameAbort bits after) s = .refused .illFormed)) ∧
  ∀ (code : Byte) (after : List PortEdge) (s : State),
    ((∀ cmd, codeOf cmd ≠ code) → portReady (byteBits code) s = false → exec (.badCommand code after) s = .next s) ∧
    ((∃ cmd, codeOf cmd = code) → exec (.badCommand code after) s = .refused .illFormed)

/-- R175, R176: every whole frame that the port can take is answered. Read bit by bit until SEL_n rises, SDO gives 0x00 through the command,
its parameters and its check, and then the turnaround byte, the result, the command's fixed number of response bytes, all 0 unless the result
is OK, a good response check, and 0xFF from there on. (Logs 8, 9.) -/
def Obligations.EveryFrameIsAnswered : Prop :=
  ∀ (c : Instr) (cmd : MgmtCommand) (params : List Byte) (check : Byte) (sdi : List Bool) (s : State),
    frameOf c = some (cmd, params, ⟨check, clockOut sdi ++ [.selRise]⟩) → portReady (frameBits cmd params check) s = true → RulesSound s →
    params.length = paramCount cmd ∧
    Answers (exec c s) fun t => ∃ (r : ResultCode) (response : List Byte), response.length = responseCount cmd ∧
      (r ≠ .ok → ∀ b ∈ response, b = 0x00) ∧
      t.port.link = { selLow := false, sckHigh := true, frame := .absent, sdo := none, read := [] } ∧
      t.port.sdo = recordedFrames s.port ++
        [List.replicate (8 * (1 + paramCount cmd + 1)) false ++
          (bytesBits ([0x00, resultByte r] ++ response ++ [crc8 (resultByte r :: response)]) ++
            List.replicate sdi.length true).take sdi.length]

/-- R174, R179, R182, edge by edge. SEL_n falling opens a frame, with the first bit, a 0, on SDO; SEL_n rising ends it, with SDO high impedance,
and adds a frame fault if some bits of a command had been sampled. With no frame in progress SCK and SDI do nothing. A rising SCK samples SDI
while the command is received and lets the host sample SDO; a falling one moves SDO to 0, or to the next bit of the answer. A command begun by
such edges and completed by its row is the same frame; in power-on and board reset the pins move and nothing else does, and afterwards a frame
opens once SEL_n has risen and fallen. (Logs 8, 9.) -/
def Obligations.SerialLinkEdges : Prop :=
  (∀ p : MgmtPort,
    (p.link.selLow = false → portEdge p .selFall = { p with link := { p.link with
      selLow := true, frame := .receiving [], sdo := some false, read := [] } }) ∧
    (p.link.selLow = true → portEdge p .selFall = p ∧
      let ended := { p with
        link := { p.link with selLow := false, frame := .absent, sdo := none, read := [] }
        sdo := if p.link.read = [] then p.sdo else p.sdo ++ [p.link.read] }
      (∀ b bits, p.link.frame = .receiving (b :: bits) →
        portEdge p .selRise = { ended with frameFault := satInc p.frameFault, lastFrameAborted := true }) ∧
      ((∀ b bits, p.link.frame ≠ .receiving (b :: bits)) → portEdge p .selRise = ended)) ∧
    (p.link.selLow = false → portEdge p .selRise = p) ∧
    (p.link.frame = .absent → ∀ b, portEdge p (.sckRise b) = { p with link := { p.link with sckHigh := true } } ∧
      portEdge p .sckFall = { p with link := { p.link with sckHigh := false } })) ∧
  (∀ (p : MgmtPort) (b : Bool), p.link.sckHigh = false →
    (∀ bits, p.link.frame = .receiving bits → reception (bits ++ [b]) = .incomplete →
      portEdge p (.sckRise b) = { p with link := { p.link with
        sckHigh := true, frame := .receiving (bits ++ [b]), read := p.link.read ++ p.link.sdo.toList } }) ∧
    (∀ out fill, p.link.frame = .sending out fill →
      portEdge p (.sckRise b) = { p with link := { p.link with sckHigh := true, read := p.link.read ++ p.link.sdo.toList } })) ∧
  (∀ p : MgmtPort, p.link.sckHigh = true →
    (∀ bits, p.link.frame = .receiving bits →
      portEdge p .sckFall = { p with link := { p.link with sckHigh := false, sdo := some false } }) ∧
    (∀ b out fill, p.link.frame = .sending (b :: out) fill →
      portEdge p .sckFall = { p with link := { p.link with sckHigh := false, sdo := some b, frame := .sending out fill } }) ∧
    (∀ fill, p.link.frame = .sending [] fill → ∃ b out, byteBits fill = b :: out ∧
      portEdge p .sckFall = { p with link := { p.link with sckHigh := false, sdo := some b, frame := .sending out fill } })) ∧
  (∀ (bits : List Bool) (p : MgmtPort), p.link = SerialLink.idle → reception bits = .incomplete →
    portEdges (.selFall :: clockIn bits) p = { p with link :=
      { selLow := true, sckHigh := false, frame := .receiving bits, sdo := some false,
        read := List.replicate bits.length false } }) ∧
  (∀ (c : Instr) (cmd : MgmtCommand) (params : List Byte) (tail : FrameTail) (n : Nat) (s : State),
    frameOf c = some (cmd, params, tail) → s.pins.power = false → s.pins.board = false → s.port.link = SerialLink.idle →
    n < (frameBits cmd params tail.check).length →
    exec c (takeEdges (.selFall :: clockIn ((frameBits cmd params tail.check).take n)) s) = exec c s) ∧
  (∀ (es : List PortEdge) (s : State), s.pins.power = true ∨ s.pins.board = true →
    takeEdges es s = { s with port := { s.port with link := { s.port.link with
      selLow := (takeEdges es s).port.link.selLow, sckHigh := (takeEdges es s).port.link.sckHigh } } }) ∧
  ∀ p : MgmtPort, p.link.frame = .absent → p.link.selLow = true → p.link.read = [] →
    (portEdges [.selRise, .selFall] p).link = { p.link with frame := .receiving [], sdo := some false }

/-- R181: STATUS answers its twelve bytes, clears LAST_FRAME_ABORTED and makes a DONE slot IDLE. R25: SET_MODE takes its checks in order and
changes the mode, with its entry effects, only where all pass and another mode is named. R30: LOCK_GUARDS sets the flag outside BYPASS.
(EVT_n's code is log 14; the record of the bytes read is log 9, here and in every command's statement.) -/
def Obligations.StatusAndModeCommands : Prop :=
  (∀ (tail : FrameTail) (s : State), runs (.status tail) s = true → exec (.status tail) s = .next (replied (.status tail) .ok
    [modeByte s.ctrl.mode, flagByte s.ctrl.guardLock, slotByte s.port.slot, resetKindByte s.port.lastReset, s.port.resetCount,
     s.port.frameFault, flagByte s.port.lastFrameAborted, configStateByte s.ring.config.state, flagByte s.ring.overrun,
     seqStateByte s.seqr.state, flagByte (evtAsserted s.events), 0x01]
    { s with port := { s.port with
      slot := if s.port.slot = .pending then .pending else .idle
      lastFrameAborted := false } })) ∧
  (∀ (code : Byte) (tail : FrameTail) (s : State), runs (.setMode code tail) s = true →
    (2 < code.toNat → exec (.setMode code tail) s = .next (replied (.setMode code tail) .badParam [] s)) ∧
    ∀ m : Mode, code = modeByte m → exec (.setMode code tail) s = .next (
      if m = .bypass ∧ s.ctrl.guardLock = true then replied (.setMode code tail) .locked [] s
      else if m ≠ .bypass ∧ s.ctrl.mode = .bypass ∧ s.port.slot = .pending then replied (.setMode code tail) .busy [] s
      else if m = .active ∧ s.ring.config.state ≠ .valid then replied (.setMode code tail) .noRing [] s
      else if m = s.ctrl.mode then replied (.setMode code tail) .ok [] s
      else replied (.setMode code tail) .ok [] (enterMode m s))) ∧
  (∀ (tail : FrameTail) (s : State), runs (.lockGuards tail) s = true → exec (.lockGuards tail) s = .next (
    if s.ctrl.mode = .bypass then replied (.lockGuards tail) .wrongMode [] s
    else replied (.lockGuards tail) .ok [] { s with ctrl := { s.ctrl with guardLock := true } })) ∧
  modeByte .bypass = 0x00 ∧ modeByte .active = 0x01 ∧ modeByte .frozen = 0x02

/-- R26, R27, R28: entering ACTIVE changes the mode alone. Entering FROZEN with nothing held does too; each held item goes on without its
record, which is lost and signalled, and HOLD_EXPIRED is not raised. Entering BYPASS does the same, and orphans every entry outside
EXPIRED, empties the sets a waiting read carries, and makes every Use Count 0. -/
def Obligations.EnteringModes : Prop :=
  (∀ s : State, enterMode .active s = { s with ctrl := { s.ctrl with mode := .active } }) ∧
  (∀ s : State,
    let released (v : State) : State :=
      let v := match v.near.head with | .held _ next => continueRequest next (lost v) | _ => v
      match v.far.head with | .held _ p => { lost v with far := { v.far with head := .ready p } } | _ => v
    enterMode .frozen s = { released s with ctrl := { s.ctrl with mode := .frozen } } ∧
    enterMode .bypass s =
      let v : State := { s with
        ort := s.ort.map fun e => if isExpired e then e else { e with pendingRules := 0, noData := 0, orphaned := true }
        rules := s.rules.mapIdx fun _ r => { r with useCount := 0 }
        near := { s.near with head := match s.near.head with
          | .waitOrt w => .waitOrt { w with pendingRules := 0, noData := 0, bypassed := true }
          | h => h } }
      { released v with ctrl := { s.ctrl with mode := .bypass } })

/-- R41, R42, R43: LOAD_SOURCE, CLEAR_SOURCE and READ_SOURCE with their checks in order. An accepted load makes the entry VALID with Damaged
Count 0; a clear makes it EMPTY; a read answers the entry and, with its clear flag, zeroes its count. A refusal changes nothing. (Log 9.) -/
def Obligations.SourceCommands : Prop :=
  (∀ (i src cls flags : Byte) (tail : FrameTail) (s : State),
    let c := Instr.loadSource i src cls flags tail
    let elsewhere := ∃ j, j < 16 ∧ j ≠ i.toNat ∧ (sourceAt s j).valid = true ∧ (sourceAt s j).sourceId = src.setWidth 6
    let bad := 15 < i.toNat ∨ 63 < src.toNat ∨ cls = 0 ∨ 7 < cls.toNat
    runs c s = true →
    (bad → exec c s = .next (replied c .badParam [] s)) ∧
    (¬ bad → s.ctrl.guardLock = true → exec c s = .next (replied c .locked [] s)) ∧
    (¬ bad → s.ctrl.guardLock = false → elsewhere → exec c s = .next (replied c .duplicateSource [] s)) ∧
    (¬ bad → s.ctrl.guardLock = false → ¬ elsewhere → exec c s = .next (replied c .ok [] { s with sources :=
      (s.sources.set i.toNat { valid := true, sourceId := src.setWidth 6, cls := cls.setWidth 3, forceOrdered := flags.getLsbD 0,
                               demote := flags.getLsbD 1, damaged := 0 }) }))) ∧
  (∀ (i : Byte) (tail : FrameTail) (s : State),
    let c := Instr.clearSource i tail
    runs c s = true → exec c s = .next (
      if 15 < i.toNat then replied c .badParam [] s
      else if s.ctrl.guardLock = true then replied c .locked [] s
      else replied c .ok [] { s with sources := s.sources.set i.toNat ⟨false, 0, 0, false, false, 0⟩ })) ∧
  ∀ (i clear : Byte) (tail : FrameTail) (s : State),
    let c := Instr.readSource i clear tail
    let e := sourceAt s i.toNat
    runs c s = true → exec c s = .next (
      if 15 < i.toNat ∨ 1 < clear.toNat then replied c .badParam [] s
      else replied c .ok
        [flagByte e.valid, e.sourceId.setWidth 8, e.cls.setWidth 8, bitsByte e.forceOrdered e.demote false, e.damaged]
        (if clear = 1 then { s with sources := s.sources.set i.toNat { e with damaged := 0 } } else s))

/-- R69 to R74: the five rule commands with their checks in order, for an index of 0 to 31 and above. LOAD_RULE's parameters give a
definition exactly when none of R69's tests refuses them, and then the one they spell. DISABLE_RULE takes the rule out of every set and
makes its Use Count 0; LOAD_RULE and CLEAR_RULE zero its counters; READ_RULE answers state, definition and Use Count. (Log 9.) -/
def Obligations.RuleCommands : Prop :=
  (∀ (p : RuleParams) (tail : FrameTail) (s : State),
    let c := Instr.loadRule p tail
    let r := ruleAt s p.index.toNat
    runs c s = true →
    (ruleDefOf p = none ∨ 31 < p.index.toNat → exec c s = .next (replied c .badParam [] s)) ∧
    ∀ d, ruleDefOf p = some d → p.index.toNat ≤ 31 → exec c s = .next (
      if s.ctrl.guardLock = true ∧ r.state = .enabled ∧ r.defn.actions.block = true then replied c .locked [] s
      else if 0 < r.useCount then replied c .ruleBusy [] s
      else if r.state = .enabled then replied c .notDisabled [] s
      else replied c .ok [] { s with
        rules := s.rules.set p.index.toNat ⟨.disabled, d, 0⟩
        counters := { s.counters with perRule := s.counters.perRule.set p.index.toNat ⟨0, 0, 0, 0, 0, 0⟩ } })) ∧
  (∀ p : RuleParams, (∃ d, ruleDefOf p = some d) ↔
    p.base.toNat ≤ p.limit.toNat ∧ p.windowMode.toNat ≤ 1 ∧ 1 ≤ p.kinds.toNat ∧ p.kinds.toNat ≤ 3 ∧ p.classes ≠ 0 ∧
    1 ≤ p.minLength.toNat ∧ p.minLength.toNat ≤ 64 ∧ p.termCount.toNat ≤ 8 ∧
    (∀ i, i < p.termCount.toNat → (p.terms.get i ⟨0, 0, 0⟩).offset.toNat ≤ 63) ∧
    (p.compare ≠ 0 → (p.compareWidth = 1 ∨ p.compareWidth = 2 ∨ p.compareWidth = 4) ∧ p.compareOffset.toNat ≤ 63 ∧
      p.compareOffset.toNat + p.compareWidth.toNat ≤ 64 ∧ p.condition.toNat ≤ 9) ∧
    p.actions.toNat ≤ 7 ∧ p.depth.toNat ≤ 1) ∧
  (∀ (p : RuleParams) (d : RuleDef), ruleDefOf p = some d → d =
    { base := p.base, limit := p.limit, windowMode := if p.windowMode = 0 then .overlap else .inside, kindRd := p.kinds.getLsbD 0,
      kindWr := p.kinds.getLsbD 1, classes := p.classes, minLength := p.minLength,
      pattern := p.terms.cells.take p.termCount.toNat,
      compare := if p.compare = 0 then none else (conditionOf p.condition).map fun cond =>
        { present := p.compare, offset := p.compareOffset, width := p.compareWidth, fieldMask := p.fieldMask, operand := p.operand,
          condition := cond }
      actions := ⟨p.actions.getLsbD 0, p.actions.getLsbD 1, p.actions.getLsbD 2⟩,
      depth := if p.depth = 0 then .headerOnly else .withData }) ∧
  (∀ (i : Byte) (tail : FrameTail) (s : State),
    let c := Instr.enableRule i tail
    let r := ruleAt s i.toNat
    runs c s = true → exec c s = .next (
      if 31 < i.toNat then replied c .badParam [] s
      else if r.state = .empty then replied c .emptyRule [] s
      else if r.state = .enabled then replied c .ok [] s
      else replied c .ok [] { s with rules := s.rules.set i.toNat { r with state := .enabled } })) ∧
  (∀ (i : Byte) (tail : FrameTail) (s : State),
    let c := Instr.disableRule i tail
    let r := ruleAt s i.toNat
    runs c s = true → exec c s = .next (
      if 31 < i.toNat then replied c .badParam [] s
      else if r.state = .empty then replied c .emptyRule [] s
      else if r.state = .enabled ∧ r.defn.actions.block = true ∧ s.ctrl.guardLock = true then replied c .locked [] s
      else if r.state = .disabled then replied c .ok [] s
      else replied c .ok [] { s with
        rules := s.rules.set i.toNat { r with state := .disabled, useCount := 0 }
        ort := s.ort.map fun e =>
          { e with pendingRules := withoutRule e.pendingRules i.toNat, noData := withoutRule e.noData i.toNat }
        near := { s.near with head := match s.near.head with
          | .waitOrt w =>
            .waitOrt { w with pendingRules := withoutRule w.pendingRules i.toNat, noData := withoutRule w.noData i.toNat }
          | h => h } })) ∧
  (∀ (i : Byte) (tail : FrameTail) (s : State),
    let c := Instr.clearRule i tail
    let r := ruleAt s i.toNat
    runs c s = true → exec c s = .next (
      if 31 < i.toNat then replied c .badParam [] s
      else if r.state = .empty then replied c .emptyRule [] s
      else if r.state = .enabled ∧ r.defn.actions.block = true ∧ s.ctrl.guardLock = true then replied c .locked [] s
      else if r.state = .enabled then replied c .notDisabled [] s
      else replied c .ok [] { s with
        rules := s.rules.set i.toNat ⟨.empty, RuleDef.empty, 0⟩
        counters := { s.counters with perRule := s.counters.perRule.set i.toNat ⟨0, 0, 0, 0, 0, 0⟩ } })) ∧
  (∀ (i : Byte) (tail : FrameTail) (s : State),
    let c := Instr.readRule i tail
    let r := ruleAt s i.toNat
    runs c s = true → exec c s = .next (
      if 31 < i.toNat then replied c .badParam [] s
      else if r.state = .empty then replied c .emptyRule [] s
      else replied c .ok ([ruleStateByte r.state] ++ ruleDefBytes r.defn ++ [BitVec.ofNat 8 r.useCount]) s)) ∧
  ∀ (m : RuleSet) (i j : Nat), i < 32 → j < 32 → hasRule (withoutRule m i) j = (hasRule m j && j != i)

/-- R118, R119: READ_COUNTERS answers a rule's six counters in order and zeroes them, READ_GLOBALS the twelve global counters and Ring Loss.
R95: SET_FILL replaces the Fill Pattern. R92: SET_TIMERS takes all three values or, with one out of range, none. (Log 9.) -/
def Obligations.CounterAndSettingCommands : Prop :=
  (∀ (i : Byte) (tail : FrameTail) (s : State),
    let c := Instr.readCounters i tail
    let k := countersAt s i.toNat
    runs c s = true → exec c s = .next (
      if 31 < i.toNat then replied c .badParam [] s
      else replied c .ok
        (be32 k.bin1to4 ++ be32 k.bin5to8 ++ be32 k.bin9to16 ++ be32 k.bin17to32 ++ be32 k.bin33to64 ++ be32 k.blocked)
        { s with counters := { s.counters with perRule := s.counters.perRule.set i.toNat ⟨0, 0, 0, 0, 0, 0⟩ } })) ∧
  (∀ (tail : FrameTail) (s : State),
    let c := Instr.readGlobals tail
    let k := s.counters.globals
    runs c s = true → exec c s = .next (replied c .ok
      (be32 k.forwardedRequests ++ be32 k.forwardedReads ++ be32 k.forwardedWrites ++ be32 k.refused ++ be32 k.damaged ++
       be32 k.malformed ++ be32 k.duplicateTag ++ be32 k.strayResponses ++ be32 k.readExpiries ++ be32 k.intrusions ++
       be32 k.holdExpiries ++ be32 k.consumerInvalid ++ be32 s.ring.loss)
      { s with
        counters := { s.counters with globals := ⟨0, 0, 0, 0, 0, 0, 0, 0, 0, 0, 0, 0⟩ }
        ring := { s.ring with loss := 0 } })) ∧
  (∀ (bytes : Table Byte 16) (tail : FrameTail) (s : State),
    let c := Instr.setFill bytes tail
    runs c s = true → exec c s = .next (replied c .ok [] { s with fill := bytes })) ∧
  ∀ (rt hl : BitVec 16) (ms : Byte) (tail : FrameTail) (s : State),
    let c := Instr.setTimers rt hl ms tail
    runs c s = true → exec c s = .next (
      if rt = 0 ∨ hl = 0 ∨ 63 < ms.toNat then replied c .badParam [] s
      else replied c .ok [] { s with timers := { readTimeout := rt, holdLimit := hl, monitorSource := ms.setWidth 6 } })

/-- R123, R124: SET_RING with its checks in order; an accepted one loads the configuration as PENDING, makes P and C 0, clears OVERRUN and
OverrunSeen, presents a Producer Word write of 0 and makes the slot PENDING, with result PENDING. R142: RING_STATUS answers its values and
sets OverrunSeen if OVERRUN is set. (Log 9.) -/
def Obligations.RingCommands : Prop :=
  (∀ (p : RingParams) (tail : FrameTail) (s : State),
    let c := Instr.setRing p tail
    let inRing (a : Addr) := p.base.toNat ≤ a.toNat ∧ a.toNat < p.base.toNat + 128 * p.slots.toNat
    let bad := p.base.toNat % 128 ≠ 0 ∨ p.slots.toNat ∉ [16, 32, 64, 128, 256, 512, 1024, 2048, 4096] ∨
      2 ^ 32 < p.base.toNat + 128 * p.slots.toNat ∨ p.producerAddr.toNat % 4 ≠ 0 ∨ p.consumerAddr.toNat % 4 ≠ 0 ∨
      p.producerAddr = p.consumerAddr ∨ inRing p.producerAddr ∨ inRing p.consumerAddr ∨ 1 < p.mode.toNat ∨ 1 < p.guard.toNat
    let inUse := s.port.slot = .pending ∨ s.ring.queue ≠ [] ∨ waitingRecords s ≠ 0 ∨ s.ring.writer ≠ .idle
    runs c s = true →
    (bad → exec c s = .next (replied c .badParam [] s)) ∧
    (¬ bad → s.ctrl.mode ≠ .bypass → exec c s = .next (replied c .wrongMode [] s)) ∧
    (¬ bad → s.ctrl.mode = .bypass → inUse → exec c s = .next (replied c .busy [] s)) ∧
    (¬ bad → s.ctrl.mode = .bypass → ¬ inUse → exec c s = .next (replied c .pending [] { s with
      ring := { s.ring with
        config := { base := p.base, slots := p.slots.toNat, producerAddr := p.producerAddr, consumerAddr := p.consumerAddr,
                    mode := if p.mode = 0 then .lossless else .lossy, guard := p.guard = 1, state := .pending }
        p := 0, c := 0, overrun := false, overrunSeen := false
        writer := .producer (ownWrite p.producerAddr [0, 0, 0, 0] s) true }
      port := { s.port with slot := .pending } }))) ∧
  ∀ (tail : FrameTail) (s : State),
    let c := Instr.ringStatus tail
    runs c s = true → exec c s = .next (replied c .ok
      ([configStateByte s.ring.config.state] ++ be16 s.ring.p ++ be16 s.ring.c ++ be32 s.ring.seq ++
        be16 (BitVec.ofNat 16 ((s.ring.p - s.ring.c).toNat + s.ring.queue.length + waitingRecords s)) ++
        [flagByte s.ring.overrun] ++ be32 s.ring.loss)
      { s with ring := { s.ring with overrunSeen := s.ring.overrunSeen || s.ring.overrun } })

/-- R148, R149, R151 to R153, R163: the sequencer's commands with their checks in order. LOAD_STAGE and SET_SEQUENCER are refused in RUN and
POST, SEQ_START too and with an empty stage in use; SEQ_START enters stage 0, SEQ_STOP makes the state OFF; SEQ_STATUS and READ_SNAPSHOT
answer and change nothing; CLEAR_SNAPSHOT empties the snapshot. (Log 9.) -/
def Obligations.SequencerCommands : Prop :=
  (∀ (i : Byte) (m : RuleSet) (n : BitVec 16) (w : BitVec 32) (x : Byte) (tail : FrameTail) (s : State),
    let c := Instr.loadStage i m n w x tail
    runs c s = true → exec c s = .next (
      if 3 < i.toNat ∨ m = 0 ∨ n = 0 ∨ 16777215 < w.toNat ∨ 1 < x.toNat then replied c .badParam [] s
      else if seqBusy s.seqr.state = true then replied c .busy [] s
      else replied c .ok [] { s with seqr := { s.seqr with stages := (s.seqr.stages.set i.toNat
        { rules := m, count := n, window := w, onExpiry := if x = 0 then .restart else .stop }) } })) ∧
  (∀ (n : Byte) (m : RuleSet) (k : BitVec 16) (a : Byte) (tail : FrameTail) (s : State),
    let c := Instr.setSequencer n m k a tail
    runs c s = true → exec c s = .next (
      if n = 0 ∨ 4 < n.toNat ∨ 255 < k.toNat ∨ 3 < a.toNat then replied c .badParam [] s
      else if seqBusy s.seqr.state = true then replied c .busy [] s
      else replied c .ok [] { s with seqr := { s.seqr with settings :=
        { stagesInUse := n.toNat, abortRules := m, postCount := k.toNat, freeze := a.getLsbD 0, mark := a.getLsbD 1 } } })) ∧
  (∀ (tail : FrameTail) (s : State),
    let c := Instr.seqStart tail
    let missing := ∃ k, k < s.seqr.settings.stagesInUse ∧ (stageAt s.seqr k).rules = 0
    runs c s = true →
    (seqBusy s.seqr.state = true → exec c s = .next (replied c .busy [] s)) ∧
    (seqBusy s.seqr.state = false → missing → exec c s = .next (replied c .badParam [] s)) ∧
    (seqBusy s.seqr.state = false → ¬ missing → exec c s = .next (replied c .ok [] { s with seqr := { s.seqr with state :=
      (.run 0 0 (if (stageAt s.seqr 0).window = 0 then none else some s.time)) } }))) ∧
  (∀ q : SeqState, seqBusy q = true ↔ (∃ k progress ws, q = .run k progress ws) ∨ ∃ n, q = .post n) ∧
  (∀ (tail : FrameTail) (s : State), runs (.seqStop tail) s = true →
    exec (.seqStop tail) s = .next (replied (.seqStop tail) .ok [] { s with seqr := { s.seqr with state := .off } })) ∧
  (∀ (tail : FrameTail) (s : State), runs (.seqStatus tail) s = true →
    exec (.seqStatus tail) s = .next (replied (.seqStatus tail) .ok (match s.seqr.state with
      | .off => [0x00, 0x00, 0x00, 0x00, 0x00]
      | .run k progress _ => [0x01, BitVec.ofNat 8 k] ++ be16 (BitVec.ofNat 16 progress) ++ [0x00]
      | .post n => [0x02, 0x00, 0x00, 0x00, BitVec.ofNat 8 n]
      | .fired => [0x03, 0x00, 0x00, 0x00, 0x00]) s)) ∧
  (∀ (tail : FrameTail) (s : State), runs (.readSnapshot tail) s = true →
    exec (.readSnapshot tail) s = .next (replied (.readSnapshot tail) .ok (match s.seqr.snapshot with
      | none => List.replicate 63 0x00
      | some x =>
        [0x01, x.resetCount] ++ be32 x.record.seq ++ be32 x.record.time ++ be32 x.record.address ++ be32 x.record.matchSet ++
        [x.record.source.setWidth 8, x.record.cls.setWidth 8, x.record.tag.setWidth 8,
         if x.record.kind = .rd then 0x01 else 0x02, bitsByte x.record.attr.u x.record.attr.g false, x.record.length,
         outcomeByte x.record.outcome, bitsByte x.record.fire x.record.post x.record.held] ++
        be16 x.record.latency ++ be16 x.record.heldTicks ++ [x.record.dataCount] ++
        x.record.data.take 32 ++ List.replicate (32 - x.record.data.length) 0x00) s)) ∧
  ∀ (tail : FrameTail) (s : State), runs (.clearSnapshot tail) s = true →
    exec (.clearSnapshot tail) s = .next (replied (.clearSnapshot tail) .ok [] { s with seqr := { s.seqr with snapshot := none } })

/-- R169: TAKE_EVENT takes the pending source of an enabled level that comes first in source order, answers it, clears it, puts its level in
service and clears GE; with none it answers NONE and changes nothing. R170: END_EVENT ends the lowest level in service and sets GE, or
answers NONE_IN_SERVICE and sets GE. R171: SET_EVENT_ENABLE sets Level Enable and GE. (Log 9.) -/
def Obligations.EventCommands : Prop :=
  (∀ (src : EventSource) (tail : FrameTail) (s : State),
    let c := Instr.takeEvent tail
    let able (x : EventSource) := (eventRecord s.events x).pending = true ∧ s.events.levelEnable.getLsbD (eventLevel x) = true
    runs c s = true →
    (able src → (∀ x, able x → eventIndex src ≤ eventIndex x) → Answers (exec c s) fun t =>
      t = replied c .ok
        ([BitVec.ofNat 8 (eventIndex src + 1), BitVec.ofNat 8 (eventLevel src), (eventRecord s.events src).count] ++
          be32 (if src = .ruleSignal then s.events.signalRules else 0))
        { s with events := { s.events with
          records := t.events.records
          signalRules := if src = .ruleSignal then 0 else s.events.signalRules
          inService := t.events.inService
          globalEnable := false } } ∧
      eventRecord t.events src = ⟨false, 0⟩ ∧ (∀ x, x ≠ src → eventRecord t.events x = eventRecord s.events x) ∧
      ∀ l, l < 4 → t.events.inService.getLsbD l = (s.events.inService.getLsbD l || l == eventLevel src)) ∧
    ((∀ x, ¬ able x) → exec c s = .next (replied c .noEvent [] s))) ∧
  (∀ x y : EventSource, eventIndex x ≤ eventIndex y → eventLevel x ≤ eventLevel y) ∧
  (∀ (level : Nat) (tail : FrameTail) (s : State),
    let c := Instr.endEvent tail
    runs c s = true →
    (level < 4 → s.events.inService.getLsbD level = true → (∀ l, l < level → s.events.inService.getLsbD l = false) →
      exec c s = .next (replied c .ok [BitVec.ofNat 8 level] { s with events := { s.events with
        inService := s.events.inService &&& ~~~ BitVec.twoPow 4 level, globalEnable := true } })) ∧
    (s.events.inService = 0 →
      exec c s = .next (replied c .noneInService [] { s with events := { s.events with globalEnable := true } }))) ∧
  ∀ (l0 l1 l2 l3 ge : Byte) (tail : FrameTail) (s : State),
    let c := Instr.setEventEnable l0 l1 l2 l3 ge tail
    runs c s = true →
    (1 < l0.toNat ∨ 1 < l1.toNat ∨ 1 < l2.toNat ∨ 1 < l3.toNat ∨ 1 < ge.toNat → exec c s = .next (replied c .badParam [] s)) ∧
    (l0.toNat ≤ 1 → l1.toNat ≤ 1 → l2.toNat ≤ 1 → l3.toNat ≤ 1 → ge.toNat ≤ 1 → Answers (exec c s) fun t =>
      t = replied c .ok [] { s with events := { s.events with levelEnable := t.events.levelEnable, globalEnable := ge = 1 } } ∧
      t.events.levelEnable.getLsbD 0 = (l0 == 1) ∧ t.events.levelEnable.getLsbD 1 = (l1 == 1) ∧
      t.events.levelEnable.getLsbD 2 = (l2 == 1) ∧ t.events.levelEnable.getLsbD 3 = (l3 == 1))

/-! ## What holds in every state -/

/-- Every step keeps each buffer within its size and its head backed by a packet, the credits granted equal to the free entries while the
link is up and 0 while it is in reset, and every count of credits within 16 (R5 to R8, R19, R20, R77, R97, R134). -/
def Obligations.BoundsKept : Prop := StepKeeps Bounded

/-- Every step keeps the keys of the Outstanding Read Table distinct and every Use Count equal to the number of entries whose pending set
holds the rule, with only ENABLED rules in any set (R48, R49, R77, R81). -/
def Obligations.UseCountsKept : Prop := StepKeeps UseCountsExact

/-- Every step keeps reserved between 0 and Slots, counting published, queued and waiting records, and a record in the queue while the
writer writes one; the keys of the read table stay distinct with it (R77, R127, R135). -/
def Obligations.RingKept : Prop := StepKeeps RingSound

/-- While no record in the part is 2^32 - 1 creations old, every step keeps the Capture Queue in the order of creation, ahead of the records
that wait and the held ones, and the i-th record of the queue in slot (P + i) mod Slots; and no slot is free while an item is held (R103,
R126, R128, R134, R140; log 12). -/
def Obligations.QueueKeepsOrder : Prop :=
  ∀ s : State, QueueOrdered s → s.ring.seq + 1 ∉ queuedSeqs s ++ waitingSeqs s ++ heldSeqs s → IfNext (step s) QueueOrdered

/-- Every step keeps: the mode out of BYPASS under the Guard Lock (R30); holds in ACTIVE only (R106); OVERRUN clear in LOSSLESS mode (R131);
counts and pending flags of events in step (R166); Source IDs distinct and EMPTY entries zero (R33, R41); EMPTY rules zero and loaded ones
valid (R47, R69); a ring configuration that SET_RING accepts (R123); and SDO driven exactly while a frame is in progress (R174, R182). -/
def Obligations.TablesAndModesKept : Prop :=
  StepKeeps LockSound ∧ StepKeeps HoldSound ∧ StepKeeps OverrunSound ∧ StepKeeps EventsSound ∧ StepKeeps SourcesSound ∧
  StepKeeps RulesSound ∧ StepKeeps ConfigSound ∧ StepKeeps SerialSound

/-- R30, R46, R72: while the Guard Lock is set, no command but power-on and board reset clears it, changes a State, Source ID, Class or
flag of the Source Table, or changes the State or the definition of an ENABLED rule with BLOCK. -/
def Obligations.LockedConfigurationStays : Prop :=
  ∀ (c : Instr) (s : State), s.ctrl.guardLock = true → c ≠ .boardReset → c ≠ .powerOn → IfNext (exec c s) fun t =>
    t.ctrl.guardLock = true ∧
    (∀ i, i < 16 → sourceAt t i = { sourceAt s i with damaged := (sourceAt t i).damaged }) ∧
    ∀ i, i < 32 → (ruleAt s i).state = .enabled → (ruleAt s i).defn.actions.block = true →
      (ruleAt t i).state = .enabled ∧ (ruleAt t i).defn = (ruleAt s i).defn
end

