-- ==== Sys2Proof/Laws/Frames.lean ====
section
/-! SUPPORT. What a management frame does: nothing where the port takes no such frame, nothing but an answer on a bad check, and
otherwise the owning block's reply, answered. -/

namespace Sys2Proof.Machine

set_option Elab.async false

theorem runFrame_notTaken (cmd : MgmtCommand) (params : List Byte) (tail : FrameTail) (body : State → Reply) (s : State)
    (h : takesFrame (frameBits cmd params tail.check) s = false) : runFrame cmd params tail body s = s := by
  simp [runFrame, h]

theorem runFrame_badCheck (cmd : MgmtCommand) (params : List Byte) (tail : FrameTail) (body : State → Reply) (s : State)
    (h : takesFrame (frameBits cmd params tail.check) s = true) (hc : checkMatches cmd params tail = false) :
    runFrame cmd params tail body s = answer cmd params (replyWith .badCheck s) tail := by
  simp [runFrame, h, hc]

theorem runFrame_taken (cmd : MgmtCommand) (params : List Byte) (tail : FrameTail) (body : State → Reply) (s : State)
    (h : takesFrame (frameBits cmd params tail.check) s = true) (hc : checkMatches cmd params tail = true) :
    runFrame cmd params tail body s = answer cmd params (body s) tail := by
  simp [runFrame, h, hc]

theorem portReady_eq_takesFrame (bits : List Bool) (s : State)  : portReady bits s = takesFrame bits s := by
  simp only [portReady, takesFrame, inHardReset, canReceive, Bool.not_or]
  all_goals (cases s.port.link.frame <;> rfl)

/-- A frame runs when the port takes it and its check matches. -/
theorem runs_iff {c : Instr} {cmd : MgmtCommand} {params : List Byte} {tail : FrameTail} {s : State}
    (hf : frameOf c = some (cmd, params, tail)) :
    runs c s = true ↔ takesFrame (frameBits cmd params tail.check) s = true ∧ checkMatches cmd params tail = true := by
  simp [runs, hf, portReady_eq_takesFrame, checkMatches, Bool.and_eq_true]

theorem replied_eq_answer {c : Instr} {cmd : MgmtCommand} {params : List Byte} {tail : FrameTail}
    (hf : frameOf c = some (cmd, params, tail)) (r : ResultCode) (response : List Byte) (s : State) :
    replied c r response s = answer cmd params ⟨r, response, s⟩ tail := by
  simp [replied, hf, answer]

/-- The next state of a frame that runs is its block's reply, answered. -/
theorem runFrame_of_runs {c : Instr} {cmd : MgmtCommand} {params : List Byte} {tail : FrameTail} {s : State}
    (hf : frameOf c = some (cmd, params, tail)) (body : State → Reply) (h : runs c s = true) :
    runFrame cmd params tail body s = replied c (body s).result (body s).response (body s).state := by
  obtain ⟨h1, h2⟩ := (runs_iff hf).mp h
  rw [runFrame_taken _ _ _ _ _ h1 h2, replied_eq_answer hf]

end Sys2Proof.Machine
end

