-- ==== Sys2Proof/Laws/State.lean ====
section
/-! SUPPORT. The fields of the state after each named update: what it changes, and that it keeps the rest. -/

namespace Sys2Proof.Machine

set_option Elab.async false

variable (s : State)


@[simp] theorem setHead_pins (h : RequestHead) : (setHead h s).pins = s.pins := rfl
@[simp] theorem setHead_linkUp (h : RequestHead) : (setHead h s).linkUp = s.linkUp := rfl
@[simp] theorem setHead_near (h : RequestHead) : (setHead h s).near = { s.near with head := h } := rfl
@[simp] theorem setHead_far (h : RequestHead) : (setHead h s).far = s.far := rfl
@[simp] theorem setHead_ctrl (h : RequestHead) : (setHead h s).ctrl = s.ctrl := rfl
@[simp] theorem setHead_time (h : RequestHead) : (setHead h s).time = s.time := rfl
@[simp] theorem setHead_sources (h : RequestHead) : (setHead h s).sources = s.sources := rfl
@[simp] theorem setHead_rules (h : RequestHead) : (setHead h s).rules = s.rules := rfl
@[simp] theorem setHead_ort (h : RequestHead) : (setHead h s).ort = s.ort := rfl
@[simp] theorem setHead_timers (h : RequestHead) : (setHead h s).timers = s.timers := rfl
@[simp] theorem setHead_fill (h : RequestHead) : (setHead h s).fill = s.fill := rfl
@[simp] theorem setHead_counters (h : RequestHead) : (setHead h s).counters = s.counters := rfl
@[simp] theorem setHead_ring (h : RequestHead) : (setHead h s).ring = s.ring := rfl
@[simp] theorem setHead_seqr (h : RequestHead) : (setHead h s).seqr = s.seqr := rfl
@[simp] theorem setHead_events (h : RequestHead) : (setHead h s).events = s.events := rfl
@[simp] theorem setHead_port (h : RequestHead) : (setHead h s).port = s.port := rfl
@[simp] theorem setHead_pending (h : RequestHead) : (setHead h s).pending = s.pending := rfl

@[simp] theorem setResponseHead_pins (h : ResponseHead) : (setResponseHead h s).pins = s.pins := rfl
@[simp] theorem setResponseHead_linkUp (h : ResponseHead) : (setResponseHead h s).linkUp = s.linkUp := rfl
@[simp] theorem setResponseHead_near (h : ResponseHead) : (setResponseHead h s).near = s.near := rfl
@[simp] theorem setResponseHead_far (h : ResponseHead) : (setResponseHead h s).far = { s.far with head := h } := rfl
@[simp] theorem setResponseHead_ctrl (h : ResponseHead) : (setResponseHead h s).ctrl = s.ctrl := rfl
@[simp] theorem setResponseHead_time (h : ResponseHead) : (setResponseHead h s).time = s.time := rfl
@[simp] theorem setResponseHead_sources (h : ResponseHead) : (setResponseHead h s).sources = s.sources := rfl
@[simp] theorem setResponseHead_rules (h : ResponseHead) : (setResponseHead h s).rules = s.rules := rfl
@[simp] theorem setResponseHead_ort (h : ResponseHead) : (setResponseHead h s).ort = s.ort := rfl
@[simp] theorem setResponseHead_timers (h : ResponseHead) : (setResponseHead h s).timers = s.timers := rfl
@[simp] theorem setResponseHead_fill (h : ResponseHead) : (setResponseHead h s).fill = s.fill := rfl
@[simp] theorem setResponseHead_counters (h : ResponseHead) : (setResponseHead h s).counters = s.counters := rfl
@[simp] theorem setResponseHead_ring (h : ResponseHead) : (setResponseHead h s).ring = s.ring := rfl
@[simp] theorem setResponseHead_seqr (h : ResponseHead) : (setResponseHead h s).seqr = s.seqr := rfl
@[simp] theorem setResponseHead_events (h : ResponseHead) : (setResponseHead h s).events = s.events := rfl
@[simp] theorem setResponseHead_port (h : ResponseHead) : (setResponseHead h s).port = s.port := rfl
@[simp] theorem setResponseHead_pending (h : ResponseHead) : (setResponseHead h s).pending = s.pending := rfl

@[simp] theorem popRequest_pins : (popRequest s).pins = s.pins := rfl
@[simp] theorem popRequest_linkUp : (popRequest s).linkUp = s.linkUp := rfl
@[simp] theorem popRequest_near : (popRequest s).near = { s.near with buffer := s.near.buffer.tail, head := .fresh, granted := s.near.granted + 1 } := rfl
@[simp] theorem popRequest_far : (popRequest s).far = s.far := rfl
@[simp] theorem popRequest_ctrl : (popRequest s).ctrl = s.ctrl := rfl
@[simp] theorem popRequest_time : (popRequest s).time = s.time := rfl
@[simp] theorem popRequest_sources : (popRequest s).sources = s.sources := rfl
@[simp] theorem popRequest_rules : (popRequest s).rules = s.rules := rfl
@[simp] theorem popRequest_ort : (popRequest s).ort = s.ort := rfl
@[simp] theorem popRequest_timers : (popRequest s).timers = s.timers := rfl
@[simp] theorem popRequest_fill : (popRequest s).fill = s.fill := rfl
@[simp] theorem popRequest_counters : (popRequest s).counters = s.counters := rfl
@[simp] theorem popRequest_ring : (popRequest s).ring = s.ring := rfl
@[simp] theorem popRequest_seqr : (popRequest s).seqr = s.seqr := rfl
@[simp] theorem popRequest_events : (popRequest s).events = s.events := rfl
@[simp] theorem popRequest_port : (popRequest s).port = s.port := rfl
@[simp] theorem popRequest_pending : (popRequest s).pending = s.pending := rfl

@[simp] theorem popResponse_pins : (popResponse s).pins = s.pins := rfl
@[simp] theorem popResponse_linkUp : (popResponse s).linkUp = s.linkUp := rfl
@[simp] theorem popResponse_near : (popResponse s).near = s.near := rfl
@[simp] theorem popResponse_far : (popResponse s).far = { s.far with buffer := s.far.buffer.tail, head := .fresh, granted := s.far.granted + 1 } := rfl
@[simp] theorem popResponse_ctrl : (popResponse s).ctrl = s.ctrl := rfl
@[simp] theorem popResponse_time : (popResponse s).time = s.time := rfl
@[simp] theorem popResponse_sources : (popResponse s).sources = s.sources := rfl
@[simp] theorem popResponse_rules : (popResponse s).rules = s.rules := rfl
@[simp] theorem popResponse_ort : (popResponse s).ort = s.ort := rfl
@[simp] theorem popResponse_timers : (popResponse s).timers = s.timers := rfl
@[simp] theorem popResponse_fill : (popResponse s).fill = s.fill := rfl
@[simp] theorem popResponse_counters : (popResponse s).counters = s.counters := rfl
@[simp] theorem popResponse_ring : (popResponse s).ring = s.ring := rfl
@[simp] theorem popResponse_seqr : (popResponse s).seqr = s.seqr := rfl
@[simp] theorem popResponse_events : (popResponse s).events = s.events := rfl
@[simp] theorem popResponse_port : (popResponse s).port = s.port := rfl
@[simp] theorem popResponse_pending : (popResponse s).pending = s.pending := rfl

@[simp] theorem bufferRequest_pins (p : RequestPacket) : (bufferRequest p s).pins = s.pins := rfl
@[simp] theorem bufferRequest_linkUp (p : RequestPacket) : (bufferRequest p s).linkUp = s.linkUp := rfl
@[simp] theorem bufferRequest_near (p : RequestPacket) : (bufferRequest p s).near = { s.near with buffer := s.near.buffer ++ [⟨p, classify p⟩], granted := s.near.granted - 1 } := rfl
@[simp] theorem bufferRequest_far (p : RequestPacket) : (bufferRequest p s).far = s.far := rfl
@[simp] theorem bufferRequest_ctrl (p : RequestPacket) : (bufferRequest p s).ctrl = s.ctrl := rfl
@[simp] theorem bufferRequest_time (p : RequestPacket) : (bufferRequest p s).time = s.time := rfl
@[simp] theorem bufferRequest_sources (p : RequestPacket) : (bufferRequest p s).sources = s.sources := rfl
@[simp] theorem bufferRequest_rules (p : RequestPacket) : (bufferRequest p s).rules = s.rules := rfl
@[simp] theorem bufferRequest_ort (p : RequestPacket) : (bufferRequest p s).ort = s.ort := rfl
@[simp] theorem bufferRequest_timers (p : RequestPacket) : (bufferRequest p s).timers = s.timers := rfl
@[simp] theorem bufferRequest_fill (p : RequestPacket) : (bufferRequest p s).fill = s.fill := rfl
@[simp] theorem bufferRequest_counters (p : RequestPacket) : (bufferRequest p s).counters = s.counters := rfl
@[simp] theorem bufferRequest_ring (p : RequestPacket) : (bufferRequest p s).ring = s.ring := rfl
@[simp] theorem bufferRequest_seqr (p : RequestPacket) : (bufferRequest p s).seqr = s.seqr := rfl
@[simp] theorem bufferRequest_events (p : RequestPacket) : (bufferRequest p s).events = s.events := rfl
@[simp] theorem bufferRequest_port (p : RequestPacket) : (bufferRequest p s).port = s.port := rfl
@[simp] theorem bufferRequest_pending (p : RequestPacket) : (bufferRequest p s).pending = s.pending := rfl

@[simp] theorem bufferResponse_pins (p : ResponsePacket) : (bufferResponse p s).pins = s.pins := rfl
@[simp] theorem bufferResponse_linkUp (p : ResponsePacket) : (bufferResponse p s).linkUp = s.linkUp := rfl
@[simp] theorem bufferResponse_near (p : ResponsePacket) : (bufferResponse p s).near = s.near := rfl
@[simp] theorem bufferResponse_far (p : ResponsePacket) : (bufferResponse p s).far = { s.far with buffer := s.far.buffer ++ [⟨p, isDamagedResponse p⟩], granted := s.far.granted - 1 } := rfl
@[simp] theorem bufferResponse_ctrl (p : ResponsePacket) : (bufferResponse p s).ctrl = s.ctrl := rfl
@[simp] theorem bufferResponse_time (p : ResponsePacket) : (bufferResponse p s).time = s.time := rfl
@[simp] theorem bufferResponse_sources (p : ResponsePacket) : (bufferResponse p s).sources = s.sources := rfl
@[simp] theorem bufferResponse_rules (p : ResponsePacket) : (bufferResponse p s).rules = s.rules := rfl
@[simp] theorem bufferResponse_ort (p : ResponsePacket) : (bufferResponse p s).ort = s.ort := rfl
@[simp] theorem bufferResponse_timers (p : ResponsePacket) : (bufferResponse p s).timers = s.timers := rfl
@[simp] theorem bufferResponse_fill (p : ResponsePacket) : (bufferResponse p s).fill = s.fill := rfl
@[simp] theorem bufferResponse_counters (p : ResponsePacket) : (bufferResponse p s).counters = s.counters := rfl
@[simp] theorem bufferResponse_ring (p : ResponsePacket) : (bufferResponse p s).ring = s.ring := rfl
@[simp] theorem bufferResponse_seqr (p : ResponsePacket) : (bufferResponse p s).seqr = s.seqr := rfl
@[simp] theorem bufferResponse_events (p : ResponsePacket) : (bufferResponse p s).events = s.events := rfl
@[simp] theorem bufferResponse_port (p : ResponsePacket) : (bufferResponse p s).port = s.port := rfl
@[simp] theorem bufferResponse_pending (p : ResponsePacket) : (bufferResponse p s).pending = s.pending := rfl

@[simp] theorem sendFar_pins (p : RequestPacket) (w : FarContender) : (sendFar p w s).pins = s.pins := rfl
@[simp] theorem sendFar_linkUp (p : RequestPacket) (w : FarContender) : (sendFar p w s).linkUp = s.linkUp := rfl
@[simp] theorem sendFar_near (p : RequestPacket) (w : FarContender) : (sendFar p w s).near = s.near := rfl
@[simp] theorem sendFar_far (p : RequestPacket) (w : FarContender) : (sendFar p w s).far = { s.far with credits := s.far.credits - 1, lastWinner := w, sent := s.far.sent ++ [p] } := rfl
@[simp] theorem sendFar_ctrl (p : RequestPacket) (w : FarContender) : (sendFar p w s).ctrl = s.ctrl := rfl
@[simp] theorem sendFar_time (p : RequestPacket) (w : FarContender) : (sendFar p w s).time = s.time := rfl
@[simp] theorem sendFar_sources (p : RequestPacket) (w : FarContender) : (sendFar p w s).sources = s.sources := rfl
@[simp] theorem sendFar_rules (p : RequestPacket) (w : FarContender) : (sendFar p w s).rules = s.rules := rfl
@[simp] theorem sendFar_ort (p : RequestPacket) (w : FarContender) : (sendFar p w s).ort = s.ort := rfl
@[simp] theorem sendFar_timers (p : RequestPacket) (w : FarContender) : (sendFar p w s).timers = s.timers := rfl
@[simp] theorem sendFar_fill (p : RequestPacket) (w : FarContender) : (sendFar p w s).fill = s.fill := rfl
@[simp] theorem sendFar_counters (p : RequestPacket) (w : FarContender) : (sendFar p w s).counters = s.counters := rfl
@[simp] theorem sendFar_ring (p : RequestPacket) (w : FarContender) : (sendFar p w s).ring = s.ring := rfl
@[simp] theorem sendFar_seqr (p : RequestPacket) (w : FarContender) : (sendFar p w s).seqr = s.seqr := rfl
@[simp] theorem sendFar_events (p : RequestPacket) (w : FarContender) : (sendFar p w s).events = s.events := rfl
@[simp] theorem sendFar_port (p : RequestPacket) (w : FarContender) : (sendFar p w s).port = s.port := rfl
@[simp] theorem sendFar_pending (p : RequestPacket) (w : FarContender) : (sendFar p w s).pending = s.pending := rfl

@[simp] theorem sendNear_pins (p : ResponsePacket) (w : NearContender) : (sendNear p w s).pins = s.pins := rfl
@[simp] theorem sendNear_linkUp (p : ResponsePacket) (w : NearContender) : (sendNear p w s).linkUp = s.linkUp := rfl
@[simp] theorem sendNear_near (p : ResponsePacket) (w : NearContender) : (sendNear p w s).near = { s.near with credits := s.near.credits - 1, lastWinner := w, sent := s.near.sent ++ [p] } := rfl
@[simp] theorem sendNear_far (p : ResponsePacket) (w : NearContender) : (sendNear p w s).far = s.far := rfl
@[simp] theorem sendNear_ctrl (p : ResponsePacket) (w : NearContender) : (sendNear p w s).ctrl = s.ctrl := rfl
@[simp] theorem sendNear_time (p : ResponsePacket) (w : NearContender) : (sendNear p w s).time = s.time := rfl
@[simp] theorem sendNear_sources (p : ResponsePacket) (w : NearContender) : (sendNear p w s).sources = s.sources := rfl
@[simp] theorem sendNear_rules (p : ResponsePacket) (w : NearContender) : (sendNear p w s).rules = s.rules := rfl
@[simp] theorem sendNear_ort (p : ResponsePacket) (w : NearContender) : (sendNear p w s).ort = s.ort := rfl
@[simp] theorem sendNear_timers (p : ResponsePacket) (w : NearContender) : (sendNear p w s).timers = s.timers := rfl
@[simp] theorem sendNear_fill (p : ResponsePacket) (w : NearContender) : (sendNear p w s).fill = s.fill := rfl
@[simp] theorem sendNear_counters (p : ResponsePacket) (w : NearContender) : (sendNear p w s).counters = s.counters := rfl
@[simp] theorem sendNear_ring (p : ResponsePacket) (w : NearContender) : (sendNear p w s).ring = s.ring := rfl
@[simp] theorem sendNear_seqr (p : ResponsePacket) (w : NearContender) : (sendNear p w s).seqr = s.seqr := rfl
@[simp] theorem sendNear_events (p : ResponsePacket) (w : NearContender) : (sendNear p w s).events = s.events := rfl
@[simp] theorem sendNear_port (p : ResponsePacket) (w : NearContender) : (sendNear p w s).port = s.port := rfl
@[simp] theorem sendNear_pending (p : ResponsePacket) (w : NearContender) : (sendNear p w s).pending = s.pending := rfl

@[simp] theorem raise_pins (src : EventSource) : (raise src s).pins = s.pins := rfl
@[simp] theorem raise_linkUp (src : EventSource) : (raise src s).linkUp = s.linkUp := rfl
@[simp] theorem raise_near (src : EventSource) : (raise src s).near = s.near := rfl
@[simp] theorem raise_far (src : EventSource) : (raise src s).far = s.far := rfl
@[simp] theorem raise_ctrl (src : EventSource) : (raise src s).ctrl = s.ctrl := rfl
@[simp] theorem raise_time (src : EventSource) : (raise src s).time = s.time := rfl
@[simp] theorem raise_sources (src : EventSource) : (raise src s).sources = s.sources := rfl
@[simp] theorem raise_rules (src : EventSource) : (raise src s).rules = s.rules := rfl
@[simp] theorem raise_ort (src : EventSource) : (raise src s).ort = s.ort := rfl
@[simp] theorem raise_timers (src : EventSource) : (raise src s).timers = s.timers := rfl
@[simp] theorem raise_fill (src : EventSource) : (raise src s).fill = s.fill := rfl
@[simp] theorem raise_counters (src : EventSource) : (raise src s).counters = s.counters := rfl
@[simp] theorem raise_ring (src : EventSource) : (raise src s).ring = s.ring := rfl
@[simp] theorem raise_seqr (src : EventSource) : (raise src s).seqr = s.seqr := rfl
@[simp] theorem raise_events (src : EventSource) : (raise src s).events = raiseEvent src 0 s.events := rfl
@[simp] theorem raise_port (src : EventSource) : (raise src s).port = s.port := rfl
@[simp] theorem raise_pending (src : EventSource) : (raise src s).pending = s.pending := rfl

@[simp] theorem count_pins (k : GlobalCounter) : (count k s).pins = s.pins := rfl
@[simp] theorem count_linkUp (k : GlobalCounter) : (count k s).linkUp = s.linkUp := rfl
@[simp] theorem count_near (k : GlobalCounter) : (count k s).near = s.near := rfl
@[simp] theorem count_far (k : GlobalCounter) : (count k s).far = s.far := rfl
@[simp] theorem count_ctrl (k : GlobalCounter) : (count k s).ctrl = s.ctrl := rfl
@[simp] theorem count_time (k : GlobalCounter) : (count k s).time = s.time := rfl
@[simp] theorem count_sources (k : GlobalCounter) : (count k s).sources = s.sources := rfl
@[simp] theorem count_rules (k : GlobalCounter) : (count k s).rules = s.rules := rfl
@[simp] theorem count_ort (k : GlobalCounter) : (count k s).ort = s.ort := rfl
@[simp] theorem count_timers (k : GlobalCounter) : (count k s).timers = s.timers := rfl
@[simp] theorem count_fill (k : GlobalCounter) : (count k s).fill = s.fill := rfl
@[simp] theorem count_counters (k : GlobalCounter) : (count k s).counters = { s.counters with globals := countGlobal k s.counters.globals } := rfl
@[simp] theorem count_ring (k : GlobalCounter) : (count k s).ring = s.ring := rfl
@[simp] theorem count_seqr (k : GlobalCounter) : (count k s).seqr = s.seqr := rfl
@[simp] theorem count_events (k : GlobalCounter) : (count k s).events = s.events := rfl
@[simp] theorem count_port (k : GlobalCounter) : (count k s).port = s.port := rfl
@[simp] theorem count_pending (k : GlobalCounter) : (count k s).pending = s.pending := rfl

@[simp] theorem loseRecord_pins : (loseRecord s).pins = s.pins := rfl
@[simp] theorem loseRecord_linkUp : (loseRecord s).linkUp = s.linkUp := rfl
@[simp] theorem loseRecord_near : (loseRecord s).near = s.near := rfl
@[simp] theorem loseRecord_far : (loseRecord s).far = s.far := rfl
@[simp] theorem loseRecord_ctrl : (loseRecord s).ctrl = s.ctrl := rfl
@[simp] theorem loseRecord_time : (loseRecord s).time = s.time := rfl
@[simp] theorem loseRecord_sources : (loseRecord s).sources = s.sources := rfl
@[simp] theorem loseRecord_rules : (loseRecord s).rules = s.rules := rfl
@[simp] theorem loseRecord_ort : (loseRecord s).ort = s.ort := rfl
@[simp] theorem loseRecord_timers : (loseRecord s).timers = s.timers := rfl
@[simp] theorem loseRecord_fill : (loseRecord s).fill = s.fill := rfl
@[simp] theorem loseRecord_counters : (loseRecord s).counters = s.counters := rfl
@[simp] theorem loseRecord_ring : (loseRecord s).ring = { s.ring with loss := satInc s.ring.loss } := rfl
@[simp] theorem loseRecord_seqr : (loseRecord s).seqr = s.seqr := rfl
@[simp] theorem loseRecord_events : (loseRecord s).events = raiseEvent .ringLoss 0 s.events := rfl
@[simp] theorem loseRecord_port : (loseRecord s).port = s.port := rfl
@[simp] theorem loseRecord_pending : (loseRecord s).pending = s.pending := rfl

@[simp] theorem enqueue_pins (r : Record) : (enqueue r s).pins = s.pins := rfl
@[simp] theorem enqueue_linkUp (r : Record) : (enqueue r s).linkUp = s.linkUp := rfl
@[simp] theorem enqueue_near (r : Record) : (enqueue r s).near = s.near := rfl
@[simp] theorem enqueue_far (r : Record) : (enqueue r s).far = s.far := rfl
@[simp] theorem enqueue_ctrl (r : Record) : (enqueue r s).ctrl = s.ctrl := rfl
@[simp] theorem enqueue_time (r : Record) : (enqueue r s).time = s.time := rfl
@[simp] theorem enqueue_sources (r : Record) : (enqueue r s).sources = s.sources := rfl
@[simp] theorem enqueue_rules (r : Record) : (enqueue r s).rules = s.rules := rfl
@[simp] theorem enqueue_ort (r : Record) : (enqueue r s).ort = s.ort := rfl
@[simp] theorem enqueue_timers (r : Record) : (enqueue r s).timers = s.timers := rfl
@[simp] theorem enqueue_fill (r : Record) : (enqueue r s).fill = s.fill := rfl
@[simp] theorem enqueue_counters (r : Record) : (enqueue r s).counters = s.counters := rfl
@[simp] theorem enqueue_ring (r : Record) : (enqueue r s).ring = { s.ring with queue := s.ring.queue ++ [⟨r, (s.ring.p.toNat + s.ring.queue.length) % s.ring.config.slots⟩] } := rfl
@[simp] theorem enqueue_seqr (r : Record) : (enqueue r s).seqr = s.seqr := rfl
@[simp] theorem enqueue_events (r : Record) : (enqueue r s).events = s.events := rfl
@[simp] theorem enqueue_port (r : Record) : (enqueue r s).port = s.port := rfl
@[simp] theorem enqueue_pending (r : Record) : (enqueue r s).pending = s.pending := rfl

@[simp] theorem publish_pins : (publish s).pins = s.pins := rfl
@[simp] theorem publish_linkUp : (publish s).linkUp = s.linkUp := rfl
@[simp] theorem publish_near : (publish s).near = s.near := rfl
@[simp] theorem publish_far : (publish s).far = s.far := rfl
@[simp] theorem publish_ctrl : (publish s).ctrl = s.ctrl := rfl
@[simp] theorem publish_time : (publish s).time = s.time := rfl
@[simp] theorem publish_sources : (publish s).sources = s.sources := rfl
@[simp] theorem publish_rules : (publish s).rules = s.rules := rfl
@[simp] theorem publish_ort : (publish s).ort = s.ort := rfl
@[simp] theorem publish_timers : (publish s).timers = s.timers := rfl
@[simp] theorem publish_fill : (publish s).fill = s.fill := rfl
@[simp] theorem publish_counters : (publish s).counters = s.counters := rfl
@[simp] theorem publish_ring : (publish s).ring = { s.ring with p := s.ring.p + 1, queue := s.ring.queue.tail, writer := .idle } := rfl
@[simp] theorem publish_seqr : (publish s).seqr = s.seqr := rfl
@[simp] theorem publish_events : (publish s).events = s.events := rfl
@[simp] theorem publish_port : (publish s).port = s.port := rfl
@[simp] theorem publish_pending : (publish s).pending = s.pending := rfl

@[simp] theorem setWriter_pins (w : Writer) : (setWriter w s).pins = s.pins := rfl
@[simp] theorem setWriter_linkUp (w : Writer) : (setWriter w s).linkUp = s.linkUp := rfl
@[simp] theorem setWriter_near (w : Writer) : (setWriter w s).near = s.near := rfl
@[simp] theorem setWriter_far (w : Writer) : (setWriter w s).far = s.far := rfl
@[simp] theorem setWriter_ctrl (w : Writer) : (setWriter w s).ctrl = s.ctrl := rfl
@[simp] theorem setWriter_time (w : Writer) : (setWriter w s).time = s.time := rfl
@[simp] theorem setWriter_sources (w : Writer) : (setWriter w s).sources = s.sources := rfl
@[simp] theorem setWriter_rules (w : Writer) : (setWriter w s).rules = s.rules := rfl
@[simp] theorem setWriter_ort (w : Writer) : (setWriter w s).ort = s.ort := rfl
@[simp] theorem setWriter_timers (w : Writer) : (setWriter w s).timers = s.timers := rfl
@[simp] theorem setWriter_fill (w : Writer) : (setWriter w s).fill = s.fill := rfl
@[simp] theorem setWriter_counters (w : Writer) : (setWriter w s).counters = s.counters := rfl
@[simp] theorem setWriter_ring (w : Writer) : (setWriter w s).ring = { s.ring with writer := w } := rfl
@[simp] theorem setWriter_seqr (w : Writer) : (setWriter w s).seqr = s.seqr := rfl
@[simp] theorem setWriter_events (w : Writer) : (setWriter w s).events = s.events := rfl
@[simp] theorem setWriter_port (w : Writer) : (setWriter w s).port = s.port := rfl
@[simp] theorem setWriter_pending (w : Writer) : (setWriter w s).pending = s.pending := rfl

@[simp] theorem completeSetRing_pins : (completeSetRing s).pins = s.pins := rfl
@[simp] theorem completeSetRing_linkUp : (completeSetRing s).linkUp = s.linkUp := rfl
@[simp] theorem completeSetRing_near : (completeSetRing s).near = s.near := rfl
@[simp] theorem completeSetRing_far : (completeSetRing s).far = s.far := rfl
@[simp] theorem completeSetRing_ctrl : (completeSetRing s).ctrl = s.ctrl := rfl
@[simp] theorem completeSetRing_time : (completeSetRing s).time = s.time := rfl
@[simp] theorem completeSetRing_sources : (completeSetRing s).sources = s.sources := rfl
@[simp] theorem completeSetRing_rules : (completeSetRing s).rules = s.rules := rfl
@[simp] theorem completeSetRing_ort : (completeSetRing s).ort = s.ort := rfl
@[simp] theorem completeSetRing_timers : (completeSetRing s).timers = s.timers := rfl
@[simp] theorem completeSetRing_fill : (completeSetRing s).fill = s.fill := rfl
@[simp] theorem completeSetRing_counters : (completeSetRing s).counters = s.counters := rfl
@[simp] theorem completeSetRing_ring : (completeSetRing s).ring = { s.ring with config := { s.ring.config with state := .valid }, writer := .idle } := rfl
@[simp] theorem completeSetRing_seqr : (completeSetRing s).seqr = s.seqr := rfl
@[simp] theorem completeSetRing_events : (completeSetRing s).events = s.events := rfl
@[simp] theorem completeSetRing_port : (completeSetRing s).port = { s.port with slot := .doneOk } := rfl
@[simp] theorem completeSetRing_pending : (completeSetRing s).pending = s.pending := rfl

@[simp] theorem addUses_pins (m : RuleSet) : (addUses m s).pins = s.pins := rfl
@[simp] theorem addUses_linkUp (m : RuleSet) : (addUses m s).linkUp = s.linkUp := rfl
@[simp] theorem addUses_near (m : RuleSet) : (addUses m s).near = s.near := rfl
@[simp] theorem addUses_far (m : RuleSet) : (addUses m s).far = s.far := rfl
@[simp] theorem addUses_ctrl (m : RuleSet) : (addUses m s).ctrl = s.ctrl := rfl
@[simp] theorem addUses_time (m : RuleSet) : (addUses m s).time = s.time := rfl
@[simp] theorem addUses_sources (m : RuleSet) : (addUses m s).sources = s.sources := rfl
@[simp] theorem addUses_rules (m : RuleSet) : (addUses m s).rules = s.rules.mapIdx fun i r => if hasRule m i then { r with useCount := r.useCount + 1 } else r := rfl
@[simp] theorem addUses_ort (m : RuleSet) : (addUses m s).ort = s.ort := rfl
@[simp] theorem addUses_timers (m : RuleSet) : (addUses m s).timers = s.timers := rfl
@[simp] theorem addUses_fill (m : RuleSet) : (addUses m s).fill = s.fill := rfl
@[simp] theorem addUses_counters (m : RuleSet) : (addUses m s).counters = s.counters := rfl
@[simp] theorem addUses_ring (m : RuleSet) : (addUses m s).ring = s.ring := rfl
@[simp] theorem addUses_seqr (m : RuleSet) : (addUses m s).seqr = s.seqr := rfl
@[simp] theorem addUses_events (m : RuleSet) : (addUses m s).events = s.events := rfl
@[simp] theorem addUses_port (m : RuleSet) : (addUses m s).port = s.port := rfl
@[simp] theorem addUses_pending (m : RuleSet) : (addUses m s).pending = s.pending := rfl

@[simp] theorem dropUses_pins (m : RuleSet) : (dropUses m s).pins = s.pins := rfl
@[simp] theorem dropUses_linkUp (m : RuleSet) : (dropUses m s).linkUp = s.linkUp := rfl
@[simp] theorem dropUses_near (m : RuleSet) : (dropUses m s).near = s.near := rfl
@[simp] theorem dropUses_far (m : RuleSet) : (dropUses m s).far = s.far := rfl
@[simp] theorem dropUses_ctrl (m : RuleSet) : (dropUses m s).ctrl = s.ctrl := rfl
@[simp] theorem dropUses_time (m : RuleSet) : (dropUses m s).time = s.time := rfl
@[simp] theorem dropUses_sources (m : RuleSet) : (dropUses m s).sources = s.sources := rfl
@[simp] theorem dropUses_rules (m : RuleSet) : (dropUses m s).rules = s.rules.mapIdx fun i r => if hasRule m i then { r with useCount := r.useCount - 1 } else r := rfl
@[simp] theorem dropUses_ort (m : RuleSet) : (dropUses m s).ort = s.ort := rfl
@[simp] theorem dropUses_timers (m : RuleSet) : (dropUses m s).timers = s.timers := rfl
@[simp] theorem dropUses_fill (m : RuleSet) : (dropUses m s).fill = s.fill := rfl
@[simp] theorem dropUses_counters (m : RuleSet) : (dropUses m s).counters = s.counters := rfl
@[simp] theorem dropUses_ring (m : RuleSet) : (dropUses m s).ring = s.ring := rfl
@[simp] theorem dropUses_seqr (m : RuleSet) : (dropUses m s).seqr = s.seqr := rfl
@[simp] theorem dropUses_events (m : RuleSet) : (dropUses m s).events = s.events := rfl
@[simp] theorem dropUses_port (m : RuleSet) : (dropUses m s).port = s.port := rfl
@[simp] theorem dropUses_pending (m : RuleSet) : (dropUses m s).pending = s.pending := rfl

@[simp] theorem clearUses_pins : (clearUses s).pins = s.pins := rfl
@[simp] theorem clearUses_linkUp : (clearUses s).linkUp = s.linkUp := rfl
@[simp] theorem clearUses_near : (clearUses s).near = s.near := rfl
@[simp] theorem clearUses_far : (clearUses s).far = s.far := rfl
@[simp] theorem clearUses_ctrl : (clearUses s).ctrl = s.ctrl := rfl
@[simp] theorem clearUses_time : (clearUses s).time = s.time := rfl
@[simp] theorem clearUses_sources : (clearUses s).sources = s.sources := rfl
@[simp] theorem clearUses_rules : (clearUses s).rules = s.rules.mapIdx fun _ r => { r with useCount := 0 } := rfl
@[simp] theorem clearUses_ort : (clearUses s).ort = s.ort := rfl
@[simp] theorem clearUses_timers : (clearUses s).timers = s.timers := rfl
@[simp] theorem clearUses_fill : (clearUses s).fill = s.fill := rfl
@[simp] theorem clearUses_counters : (clearUses s).counters = s.counters := rfl
@[simp] theorem clearUses_ring : (clearUses s).ring = s.ring := rfl
@[simp] theorem clearUses_seqr : (clearUses s).seqr = s.seqr := rfl
@[simp] theorem clearUses_events : (clearUses s).events = s.events := rfl
@[simp] theorem clearUses_port : (clearUses s).port = s.port := rfl
@[simp] theorem clearUses_pending : (clearUses s).pending = s.pending := rfl

@[simp] theorem changeEntry_pins (src : SourceId) (tag : Tag) (f : OrtEntry → OrtEntry) : (changeEntry src tag f s).pins = s.pins := rfl
@[simp] theorem changeEntry_linkUp (src : SourceId) (tag : Tag) (f : OrtEntry → OrtEntry) : (changeEntry src tag f s).linkUp = s.linkUp := rfl
@[simp] theorem changeEntry_near (src : SourceId) (tag : Tag) (f : OrtEntry → OrtEntry) : (changeEntry src tag f s).near = s.near := rfl
@[simp] theorem changeEntry_far (src : SourceId) (tag : Tag) (f : OrtEntry → OrtEntry) : (changeEntry src tag f s).far = s.far := rfl
@[simp] theorem changeEntry_ctrl (src : SourceId) (tag : Tag) (f : OrtEntry → OrtEntry) : (changeEntry src tag f s).ctrl = s.ctrl := rfl
@[simp] theorem changeEntry_time (src : SourceId) (tag : Tag) (f : OrtEntry → OrtEntry) : (changeEntry src tag f s).time = s.time := rfl
@[simp] theorem changeEntry_sources (src : SourceId) (tag : Tag) (f : OrtEntry → OrtEntry) : (changeEntry src tag f s).sources = s.sources := rfl
@[simp] theorem changeEntry_rules (src : SourceId) (tag : Tag) (f : OrtEntry → OrtEntry) : (changeEntry src tag f s).rules = s.rules := rfl
@[simp] theorem changeEntry_ort (src : SourceId) (tag : Tag) (f : OrtEntry → OrtEntry) : (changeEntry src tag f s).ort = s.ort.map fun e => if holdsKey src tag e then f e else e := rfl
@[simp] theorem changeEntry_timers (src : SourceId) (tag : Tag) (f : OrtEntry → OrtEntry) : (changeEntry src tag f s).timers = s.timers := rfl
@[simp] theorem changeEntry_fill (src : SourceId) (tag : Tag) (f : OrtEntry → OrtEntry) : (changeEntry src tag f s).fill = s.fill := rfl
@[simp] theorem changeEntry_counters (src : SourceId) (tag : Tag) (f : OrtEntry → OrtEntry) : (changeEntry src tag f s).counters = s.counters := rfl
@[simp] theorem changeEntry_ring (src : SourceId) (tag : Tag) (f : OrtEntry → OrtEntry) : (changeEntry src tag f s).ring = s.ring := rfl
@[simp] theorem changeEntry_seqr (src : SourceId) (tag : Tag) (f : OrtEntry → OrtEntry) : (changeEntry src tag f s).seqr = s.seqr := rfl
@[simp] theorem changeEntry_events (src : SourceId) (tag : Tag) (f : OrtEntry → OrtEntry) : (changeEntry src tag f s).events = s.events := rfl
@[simp] theorem changeEntry_port (src : SourceId) (tag : Tag) (f : OrtEntry → OrtEntry) : (changeEntry src tag f s).port = s.port := rfl
@[simp] theorem changeEntry_pending (src : SourceId) (tag : Tag) (f : OrtEntry → OrtEntry) : (changeEntry src tag f s).pending = s.pending := rfl

@[simp] theorem countRules_pins (m : RuleSet) (len : Nat) (refused : Bool) : (countRules m len refused s).pins = s.pins := rfl
@[simp] theorem countRules_linkUp (m : RuleSet) (len : Nat) (refused : Bool) : (countRules m len refused s).linkUp = s.linkUp := rfl
@[simp] theorem countRules_near (m : RuleSet) (len : Nat) (refused : Bool) : (countRules m len refused s).near = s.near := rfl
@[simp] theorem countRules_far (m : RuleSet) (len : Nat) (refused : Bool) : (countRules m len refused s).far = s.far := rfl
@[simp] theorem countRules_ctrl (m : RuleSet) (len : Nat) (refused : Bool) : (countRules m len refused s).ctrl = s.ctrl := rfl
@[simp] theorem countRules_time (m : RuleSet) (len : Nat) (refused : Bool) : (countRules m len refused s).time = s.time := rfl
@[simp] theorem countRules_sources (m : RuleSet) (len : Nat) (refused : Bool) : (countRules m len refused s).sources = s.sources := rfl
@[simp] theorem countRules_rules (m : RuleSet) (len : Nat) (refused : Bool) : (countRules m len refused s).rules = s.rules := rfl
@[simp] theorem countRules_ort (m : RuleSet) (len : Nat) (refused : Bool) : (countRules m len refused s).ort = s.ort := rfl
@[simp] theorem countRules_timers (m : RuleSet) (len : Nat) (refused : Bool) : (countRules m len refused s).timers = s.timers := rfl
@[simp] theorem countRules_fill (m : RuleSet) (len : Nat) (refused : Bool) : (countRules m len refused s).fill = s.fill := rfl
@[simp] theorem countRules_ring (m : RuleSet) (len : Nat) (refused : Bool) : (countRules m len refused s).ring = s.ring := rfl
@[simp] theorem countRules_seqr (m : RuleSet) (len : Nat) (refused : Bool) : (countRules m len refused s).seqr = s.seqr := rfl
@[simp] theorem countRules_events (m : RuleSet) (len : Nat) (refused : Bool) : (countRules m len refused s).events = s.events := rfl
@[simp] theorem countRules_port (m : RuleSet) (len : Nat) (refused : Bool) : (countRules m len refused s).port = s.port := rfl
@[simp] theorem countRules_pending (m : RuleSet) (len : Nat) (refused : Bool) : (countRules m len refused s).pending = s.pending := rfl

@[simp] theorem countDamaged_pins (src : SourceId) : (countDamaged src s).pins = s.pins := rfl
@[simp] theorem countDamaged_linkUp (src : SourceId) : (countDamaged src s).linkUp = s.linkUp := rfl
@[simp] theorem countDamaged_near (src : SourceId) : (countDamaged src s).near = s.near := rfl
@[simp] theorem countDamaged_far (src : SourceId) : (countDamaged src s).far = s.far := rfl
@[simp] theorem countDamaged_ctrl (src : SourceId) : (countDamaged src s).ctrl = s.ctrl := rfl
@[simp] theorem countDamaged_time (src : SourceId) : (countDamaged src s).time = s.time := rfl
@[simp] theorem countDamaged_rules (src : SourceId) : (countDamaged src s).rules = s.rules := rfl
@[simp] theorem countDamaged_ort (src : SourceId) : (countDamaged src s).ort = s.ort := rfl
@[simp] theorem countDamaged_timers (src : SourceId) : (countDamaged src s).timers = s.timers := rfl
@[simp] theorem countDamaged_fill (src : SourceId) : (countDamaged src s).fill = s.fill := rfl
@[simp] theorem countDamaged_counters (src : SourceId) : (countDamaged src s).counters = { s.counters with globals := countGlobal .damaged s.counters.globals } := rfl
@[simp] theorem countDamaged_ring (src : SourceId) : (countDamaged src s).ring = s.ring := rfl
@[simp] theorem countDamaged_seqr (src : SourceId) : (countDamaged src s).seqr = s.seqr := rfl
@[simp] theorem countDamaged_events (src : SourceId) : (countDamaged src s).events = raiseEvent .damaged 0 s.events := rfl
@[simp] theorem countDamaged_port (src : SourceId) : (countDamaged src s).port = s.port := rfl
@[simp] theorem countDamaged_pending (src : SourceId) : (countDamaged src s).pending = s.pending := rfl

@[simp] theorem setMode_pins (m : Mode) : (setMode m s).pins = s.pins := rfl
@[simp] theorem setMode_linkUp (m : Mode) : (setMode m s).linkUp = s.linkUp := rfl
@[simp] theorem setMode_near (m : Mode) : (setMode m s).near = s.near := rfl
@[simp] theorem setMode_far (m : Mode) : (setMode m s).far = s.far := rfl
@[simp] theorem setMode_ctrl (m : Mode) : (setMode m s).ctrl = { s.ctrl with mode := m } := rfl
@[simp] theorem setMode_time (m : Mode) : (setMode m s).time = s.time := rfl
@[simp] theorem setMode_sources (m : Mode) : (setMode m s).sources = s.sources := rfl
@[simp] theorem setMode_rules (m : Mode) : (setMode m s).rules = s.rules := rfl
@[simp] theorem setMode_ort (m : Mode) : (setMode m s).ort = s.ort := rfl
@[simp] theorem setMode_timers (m : Mode) : (setMode m s).timers = s.timers := rfl
@[simp] theorem setMode_fill (m : Mode) : (setMode m s).fill = s.fill := rfl
@[simp] theorem setMode_counters (m : Mode) : (setMode m s).counters = s.counters := rfl
@[simp] theorem setMode_ring (m : Mode) : (setMode m s).ring = s.ring := rfl
@[simp] theorem setMode_seqr (m : Mode) : (setMode m s).seqr = s.seqr := rfl
@[simp] theorem setMode_events (m : Mode) : (setMode m s).events = s.events := rfl
@[simp] theorem setMode_port (m : Mode) : (setMode m s).port = s.port := rfl
@[simp] theorem setMode_pending (m : Mode) : (setMode m s).pending = s.pending := rfl

@[simp] theorem setSeqState_pins (q : SeqState) : (setSeqState q s).pins = s.pins := rfl
@[simp] theorem setSeqState_linkUp (q : SeqState) : (setSeqState q s).linkUp = s.linkUp := rfl
@[simp] theorem setSeqState_near (q : SeqState) : (setSeqState q s).near = s.near := rfl
@[simp] theorem setSeqState_far (q : SeqState) : (setSeqState q s).far = s.far := rfl
@[simp] theorem setSeqState_ctrl (q : SeqState) : (setSeqState q s).ctrl = s.ctrl := rfl
@[simp] theorem setSeqState_time (q : SeqState) : (setSeqState q s).time = s.time := rfl
@[simp] theorem setSeqState_sources (q : SeqState) : (setSeqState q s).sources = s.sources := rfl
@[simp] theorem setSeqState_rules (q : SeqState) : (setSeqState q s).rules = s.rules := rfl
@[simp] theorem setSeqState_ort (q : SeqState) : (setSeqState q s).ort = s.ort := rfl
@[simp] theorem setSeqState_timers (q : SeqState) : (setSeqState q s).timers = s.timers := rfl
@[simp] theorem setSeqState_fill (q : SeqState) : (setSeqState q s).fill = s.fill := rfl
@[simp] theorem setSeqState_counters (q : SeqState) : (setSeqState q s).counters = s.counters := rfl
@[simp] theorem setSeqState_ring (q : SeqState) : (setSeqState q s).ring = s.ring := rfl
@[simp] theorem setSeqState_seqr (q : SeqState) : (setSeqState q s).seqr = { s.seqr with state := q } := rfl
@[simp] theorem setSeqState_events (q : SeqState) : (setSeqState q s).events = s.events := rfl
@[simp] theorem setSeqState_port (q : SeqState) : (setSeqState q s).port = s.port := rfl
@[simp] theorem setSeqState_pending (q : SeqState) : (setSeqState q s).pending = s.pending := rfl

@[simp] theorem setSource_pins (i : Nat) (e : SourceEntry) : (setSource i e s).pins = s.pins := rfl
@[simp] theorem setSource_linkUp (i : Nat) (e : SourceEntry) : (setSource i e s).linkUp = s.linkUp := rfl
@[simp] theorem setSource_near (i : Nat) (e : SourceEntry) : (setSource i e s).near = s.near := rfl
@[simp] theorem setSource_far (i : Nat) (e : SourceEntry) : (setSource i e s).far = s.far := rfl
@[simp] theorem setSource_ctrl (i : Nat) (e : SourceEntry) : (setSource i e s).ctrl = s.ctrl := rfl
@[simp] theorem setSource_time (i : Nat) (e : SourceEntry) : (setSource i e s).time = s.time := rfl
@[simp] theorem setSource_sources (i : Nat) (e : SourceEntry) : (setSource i e s).sources = s.sources.set i e := rfl
@[simp] theorem setSource_rules (i : Nat) (e : SourceEntry) : (setSource i e s).rules = s.rules := rfl
@[simp] theorem setSource_ort (i : Nat) (e : SourceEntry) : (setSource i e s).ort = s.ort := rfl
@[simp] theorem setSource_timers (i : Nat) (e : SourceEntry) : (setSource i e s).timers = s.timers := rfl
@[simp] theorem setSource_fill (i : Nat) (e : SourceEntry) : (setSource i e s).fill = s.fill := rfl
@[simp] theorem setSource_counters (i : Nat) (e : SourceEntry) : (setSource i e s).counters = s.counters := rfl
@[simp] theorem setSource_ring (i : Nat) (e : SourceEntry) : (setSource i e s).ring = s.ring := rfl
@[simp] theorem setSource_seqr (i : Nat) (e : SourceEntry) : (setSource i e s).seqr = s.seqr := rfl
@[simp] theorem setSource_events (i : Nat) (e : SourceEntry) : (setSource i e s).events = s.events := rfl
@[simp] theorem setSource_port (i : Nat) (e : SourceEntry) : (setSource i e s).port = s.port := rfl
@[simp] theorem setSource_pending (i : Nat) (e : SourceEntry) : (setSource i e s).pending = s.pending := rfl

@[simp] theorem setRule_pins (i : Nat) (r : Rule) : (setRule i r s).pins = s.pins := rfl
@[simp] theorem setRule_linkUp (i : Nat) (r : Rule) : (setRule i r s).linkUp = s.linkUp := rfl
@[simp] theorem setRule_near (i : Nat) (r : Rule) : (setRule i r s).near = s.near := rfl
@[simp] theorem setRule_far (i : Nat) (r : Rule) : (setRule i r s).far = s.far := rfl
@[simp] theorem setRule_ctrl (i : Nat) (r : Rule) : (setRule i r s).ctrl = s.ctrl := rfl
@[simp] theorem setRule_time (i : Nat) (r : Rule) : (setRule i r s).time = s.time := rfl
@[simp] theorem setRule_sources (i : Nat) (r : Rule) : (setRule i r s).sources = s.sources := rfl
@[simp] theorem setRule_rules (i : Nat) (r : Rule) : (setRule i r s).rules = s.rules.set i r := rfl
@[simp] theorem setRule_ort (i : Nat) (r : Rule) : (setRule i r s).ort = s.ort := rfl
@[simp] theorem setRule_timers (i : Nat) (r : Rule) : (setRule i r s).timers = s.timers := rfl
@[simp] theorem setRule_fill (i : Nat) (r : Rule) : (setRule i r s).fill = s.fill := rfl
@[simp] theorem setRule_counters (i : Nat) (r : Rule) : (setRule i r s).counters = s.counters := rfl
@[simp] theorem setRule_ring (i : Nat) (r : Rule) : (setRule i r s).ring = s.ring := rfl
@[simp] theorem setRule_seqr (i : Nat) (r : Rule) : (setRule i r s).seqr = s.seqr := rfl
@[simp] theorem setRule_events (i : Nat) (r : Rule) : (setRule i r s).events = s.events := rfl
@[simp] theorem setRule_port (i : Nat) (r : Rule) : (setRule i r s).port = s.port := rfl
@[simp] theorem setRule_pending (i : Nat) (r : Rule) : (setRule i r s).pending = s.pending := rfl

@[simp] theorem zeroCounters_pins (i : Nat) : (zeroCounters i s).pins = s.pins := rfl
@[simp] theorem zeroCounters_linkUp (i : Nat) : (zeroCounters i s).linkUp = s.linkUp := rfl
@[simp] theorem zeroCounters_near (i : Nat) : (zeroCounters i s).near = s.near := rfl
@[simp] theorem zeroCounters_far (i : Nat) : (zeroCounters i s).far = s.far := rfl
@[simp] theorem zeroCounters_ctrl (i : Nat) : (zeroCounters i s).ctrl = s.ctrl := rfl
@[simp] theorem zeroCounters_time (i : Nat) : (zeroCounters i s).time = s.time := rfl
@[simp] theorem zeroCounters_sources (i : Nat) : (zeroCounters i s).sources = s.sources := rfl
@[simp] theorem zeroCounters_rules (i : Nat) : (zeroCounters i s).rules = s.rules := rfl
@[simp] theorem zeroCounters_ort (i : Nat) : (zeroCounters i s).ort = s.ort := rfl
@[simp] theorem zeroCounters_timers (i : Nat) : (zeroCounters i s).timers = s.timers := rfl
@[simp] theorem zeroCounters_fill (i : Nat) : (zeroCounters i s).fill = s.fill := rfl
@[simp] theorem zeroCounters_counters (i : Nat) : (zeroCounters i s).counters = { s.counters with perRule := s.counters.perRule.set i RuleCounters.zero } := rfl
@[simp] theorem zeroCounters_ring (i : Nat) : (zeroCounters i s).ring = s.ring := rfl
@[simp] theorem zeroCounters_seqr (i : Nat) : (zeroCounters i s).seqr = s.seqr := rfl
@[simp] theorem zeroCounters_events (i : Nat) : (zeroCounters i s).events = s.events := rfl
@[simp] theorem zeroCounters_port (i : Nat) : (zeroCounters i s).port = s.port := rfl
@[simp] theorem zeroCounters_pending (i : Nat) : (zeroCounters i s).pending = s.pending := rfl

end Sys2Proof.Machine
end

