-- ==== Sys2Proof/Laws/Tables.lean ====
section
/-! SUPPORT. What the cells of a table are after each operation on it, and what the members of a rule set are. -/

namespace Sys2Proof

set_option Elab.async false

namespace Table
variable {α : Type} {n : Nat}

@[ext] theorem ext_cells {t u : Table α n} (h : t.cells = u.cells) : t = u := by
  cases t; cases u; simp_all

@[simp] theorem get_fill (x d : α) (i : Nat) (h : i < n) : (fill n x).get i d = x := by
  simp [get, fill, h]

theorem get_set (t : Table α n) (i j : Nat) (x d : α) (h : i < n) :
    (t.set i x).get j d = if i = j then x else t.get j d := by
  have := t.size_eq
  simp only [get, set, List.getD_eq_getElem?_getD, List.getElem?_set]
  split <;> simp_all

theorem get_set_self (t : Table α n) (i : Nat) (x d : α) (h : i < n) : (t.set i x).get i d = x := by
  simp [get_set, h]

theorem get_set_other (t : Table α n) (i j : Nat) (x d : α) (h : i ≠ j) : (t.set i x).get j d = t.get j d := by
  simp [get, set, List.getD_eq_getElem?_getD, h]

theorem get_mapIdx (t : Table α n) (f : Nat → α → α) (i : Nat) (d : α) (h : i < n) :
    (t.mapIdx f).get i d = f i (t.get i d) := by
  have hs := t.size_eq
  have : i < t.cells.length := by omega
  simp [get, mapIdx, List.getD_eq_getElem?_getD, this]

theorem get_of_ge (t : Table α n) (i : Nat) (d : α) (h : n ≤ i) : t.get i d = d := by
  have := t.size_eq
  simp [get, List.getD_eq_getElem?_getD, List.getElem?_eq_none (show t.cells.length ≤ i by omega)]

end Table

namespace Machine

theorem hasRule_ruleSetBelow (p : Nat → Bool) (n i : Nat) (h : i < 32) :
    hasRule (ruleSetBelow p n) i = (decide (i < n) && p i) := by
  induction n with
  | zero => simp [ruleSetBelow, hasRule]
  | succ n ih =>
    simp only [hasRule] at ih ⊢
    simp only [ruleSetBelow, BitVec.getLsbD_or, ih]
    by_cases hn : i = n
    · subst hn; cases hp : p i <;> simp [h]
    · have hlt : (i < n + 1) = (i < n) := by simp; omega
      have hne : n ≠ i := fun e => hn e.symm
      cases hp : p n <;> simp [hlt, hne]

/-- The members of a set described by a property are the rules with the property. -/
theorem hasRule_ruleSetOf (p : Nat → Bool) (i : Nat) (h : i < 32) : hasRule (ruleSetOf p) i = p i := by
  simp [ruleSetOf, hasRule_ruleSetBelow p 32 i h, h]

theorem hasRule_rulesWith (p : Rule → Bool) (s : State) (i : Nat) (h : i < 32) : hasRule (rulesWith p s) i = p (ruleAt s i) := by
  simp [rulesWith, hasRule_ruleSetOf _ i h]

theorem hasRule_of_ge (m : RuleSet) (i : Nat) (h : 32 ≤ i) : hasRule m i = false := BitVec.getLsbD_of_ge m i h

@[simp] theorem hasRule_zero (i : Nat) : hasRule 0#32 i = false := by simp [hasRule]

@[simp] theorem hasRule_and (a b : RuleSet) (i : Nat) : hasRule (a &&& b) i = (hasRule a i && hasRule b i) := by simp [hasRule]

@[simp] theorem hasRule_or (a b : RuleSet) (i : Nat) : hasRule (a ||| b) i = (hasRule a i || hasRule b i) := by simp [hasRule]

theorem hasRule_not (a : RuleSet) (i : Nat) (h : i < 32) : hasRule (~~~ a) i = !hasRule a i := by simp [hasRule, h]

theorem hasRule_withoutRule (m : RuleSet) (i j : Nat) (h : i < 32) : hasRule (withoutRule m i) j = (hasRule m j && j != i) := by
  by_cases hj : j < 32
  · by_cases e : j = i
    · subst e; simp [withoutRule, hasRule, hj]
    · simp [withoutRule, hasRule, hj, e]
  · rw [hasRule_of_ge _ j (by omega), hasRule_of_ge _ j (by omega)]; rfl

/-- A rule set is empty exactly when it has no member. -/
theorem ruleSet_eq_zero (m : RuleSet) : m = 0 ↔ ∀ i, i < 32 → hasRule m i = false := by
  constructor
  · intro h i _; simp [h]
  · intro h; apply BitVec.eq_of_getLsbD_eq; intro i hi; simpa [hasRule] using h i hi

/-- Two sets meet exactly when they share a rule. -/
theorem meets_iff (a b : RuleSet) : meets a b = true ↔ ∃ i, i < 32 ∧ hasRule a i = true ∧ hasRule b i = true := by
  have h := ruleSet_eq_zero (a &&& b)
  simp only [meets, bne_iff_ne, ne_eq]
  constructor
  · intro hne
    by_contra hc
    apply hne; apply h.mpr
    intro i hi
    cases h1 : hasRule (a &&& b) i with
    | false => rfl
    | true => exact absurd ⟨i, hi, by simpa using h1⟩ hc
  · rintro ⟨i, hi, h1, h2⟩ he
    have := h.mp he i hi
    simp [h1, h2] at this

@[simp] theorem meets_zero (b : RuleSet) : meets 0#32 b = false := by simp [meets]

theorem ruleAt_of_ge (s : State) (i : Nat) (h : 32 ≤ i) : ruleAt s i = Rule.empty := Table.get_of_ge _ i _ h

end Machine
end Sys2Proof
end

