-- ==== Sys2Proof/Laws/Ops.lean ====
section
/-! SUPPORT. What each shared operation can do: the fields it keeps, and its outcome case by case. -/

namespace Sys2Proof.Machine

set_option Elab.async false

variable (s : State)

/-! ## Fields kept by the operations with cases -/

@[simp] theorem dropRecord_pins : (dropRecord s).pins = s.pins := by unfold dropRecord; dsimp only; split <;> rfl
@[simp] theorem dropRecord_linkUp : (dropRecord s).linkUp = s.linkUp := by unfold dropRecord; dsimp only; split <;> rfl
@[simp] theorem dropRecord_near : (dropRecord s).near = s.near := by unfold dropRecord; dsimp only; split <;> rfl
@[simp] theorem dropRecord_far : (dropRecord s).far = s.far := by unfold dropRecord; dsimp only; split <;> rfl
@[simp] theorem dropRecord_ctrl : (dropRecord s).ctrl = s.ctrl := by unfold dropRecord; dsimp only; split <;> rfl
@[simp] theorem dropRecord_time : (dropRecord s).time = s.time := by unfold dropRecord; dsimp only; split <;> rfl
@[simp] theorem dropRecord_sources : (dropRecord s).sources = s.sources := by unfold dropRecord; dsimp only; split <;> rfl
@[simp] theorem dropRecord_rules : (dropRecord s).rules = s.rules := by unfold dropRecord; dsimp only; split <;> rfl
@[simp] theorem dropRecord_ort : (dropRecord s).ort = s.ort := by unfold dropRecord; dsimp only; split <;> rfl
@[simp] theorem dropRecord_timers : (dropRecord s).timers = s.timers := by unfold dropRecord; dsimp only; split <;> rfl
@[simp] theorem dropRecord_fill : (dropRecord s).fill = s.fill := by unfold dropRecord; dsimp only; split <;> rfl
@[simp] theorem dropRecord_counters : (dropRecord s).counters = s.counters := by unfold dropRecord; dsimp only; split <;> rfl
@[simp] theorem dropRecord_seqr : (dropRecord s).seqr = s.seqr := by unfold dropRecord; dsimp only; split <;> rfl
@[simp] theorem dropRecord_port : (dropRecord s).port = s.port := by unfold dropRecord; dsimp only; split <;> rfl
@[simp] theorem dropRecord_pending : (dropRecord s).pending = s.pending := by unfold dropRecord; dsimp only; split <;> rfl
@[simp] theorem dropRecord_ring_config : (dropRecord s).ring.config = s.ring.config := by unfold dropRecord; dsimp only; split <;> rfl
@[simp] theorem dropRecord_ring_p : (dropRecord s).ring.p = s.ring.p := by unfold dropRecord; dsimp only; split <;> rfl
@[simp] theorem dropRecord_ring_c : (dropRecord s).ring.c = s.ring.c := by unfold dropRecord; dsimp only; split <;> rfl
@[simp] theorem dropRecord_ring_seq : (dropRecord s).ring.seq = s.ring.seq := by unfold dropRecord; dsimp only; split <;> rfl
@[simp] theorem dropRecord_ring_overrunSeen : (dropRecord s).ring.overrunSeen = s.ring.overrunSeen := by unfold dropRecord; dsimp only; split <;> rfl
@[simp] theorem dropRecord_ring_queue : (dropRecord s).ring.queue = s.ring.queue := by unfold dropRecord; dsimp only; split <;> rfl
@[simp] theorem dropRecord_ring_writer : (dropRecord s).ring.writer = s.ring.writer := by unfold dropRecord; dsimp only; split <;> rfl

@[simp] theorem signalRule_pins (m : RuleSet) : (signalRule m s).pins = s.pins := by unfold signalRule; split <;> rfl
@[simp] theorem signalRule_linkUp (m : RuleSet) : (signalRule m s).linkUp = s.linkUp := by unfold signalRule; split <;> rfl
@[simp] theorem signalRule_near (m : RuleSet) : (signalRule m s).near = s.near := by unfold signalRule; split <;> rfl
@[simp] theorem signalRule_far (m : RuleSet) : (signalRule m s).far = s.far := by unfold signalRule; split <;> rfl
@[simp] theorem signalRule_ctrl (m : RuleSet) : (signalRule m s).ctrl = s.ctrl := by unfold signalRule; split <;> rfl
@[simp] theorem signalRule_time (m : RuleSet) : (signalRule m s).time = s.time := by unfold signalRule; split <;> rfl
@[simp] theorem signalRule_sources (m : RuleSet) : (signalRule m s).sources = s.sources := by unfold signalRule; split <;> rfl
@[simp] theorem signalRule_rules (m : RuleSet) : (signalRule m s).rules = s.rules := by unfold signalRule; split <;> rfl
@[simp] theorem signalRule_ort (m : RuleSet) : (signalRule m s).ort = s.ort := by unfold signalRule; split <;> rfl
@[simp] theorem signalRule_timers (m : RuleSet) : (signalRule m s).timers = s.timers := by unfold signalRule; split <;> rfl
@[simp] theorem signalRule_fill (m : RuleSet) : (signalRule m s).fill = s.fill := by unfold signalRule; split <;> rfl
@[simp] theorem signalRule_counters (m : RuleSet) : (signalRule m s).counters = s.counters := by unfold signalRule; split <;> rfl
@[simp] theorem signalRule_ring (m : RuleSet) : (signalRule m s).ring = s.ring := by unfold signalRule; split <;> rfl
@[simp] theorem signalRule_seqr (m : RuleSet) : (signalRule m s).seqr = s.seqr := by unfold signalRule; split <;> rfl
@[simp] theorem signalRule_port (m : RuleSet) : (signalRule m s).port = s.port := by unfold signalRule; split <;> rfl
@[simp] theorem signalRule_pending (m : RuleSet) : (signalRule m s).pending = s.pending := by unfold signalRule; split <;> rfl

@[simp] theorem startMark_pins : (startMark s).pins = s.pins := by unfold startMark; split <;> rfl
@[simp] theorem startMark_linkUp : (startMark s).linkUp = s.linkUp := by unfold startMark; split <;> rfl
@[simp] theorem startMark_near : (startMark s).near = s.near := by unfold startMark; split <;> rfl
@[simp] theorem startMark_far : (startMark s).far = s.far := by unfold startMark; split <;> rfl
@[simp] theorem startMark_ctrl : (startMark s).ctrl = s.ctrl := by unfold startMark; split <;> rfl
@[simp] theorem startMark_time : (startMark s).time = s.time := by unfold startMark; split <;> rfl
@[simp] theorem startMark_sources : (startMark s).sources = s.sources := by unfold startMark; split <;> rfl
@[simp] theorem startMark_rules : (startMark s).rules = s.rules := by unfold startMark; split <;> rfl
@[simp] theorem startMark_ort : (startMark s).ort = s.ort := by unfold startMark; split <;> rfl
@[simp] theorem startMark_timers : (startMark s).timers = s.timers := by unfold startMark; split <;> rfl
@[simp] theorem startMark_fill : (startMark s).fill = s.fill := by unfold startMark; split <;> rfl
@[simp] theorem startMark_counters : (startMark s).counters = s.counters := by unfold startMark; split <;> rfl
@[simp] theorem startMark_ring : (startMark s).ring = s.ring := by unfold startMark; split <;> rfl
@[simp] theorem startMark_events : (startMark s).events = s.events := by unfold startMark; split <;> rfl
@[simp] theorem startMark_port : (startMark s).port = s.port := by unfold startMark; split <;> rfl
@[simp] theorem startMark_pending : (startMark s).pending = s.pending := by unfold startMark; split <;> rfl
@[simp] theorem startMark_seqr_stages : (startMark s).seqr.stages = s.seqr.stages := by unfold startMark; split <;> rfl
@[simp] theorem startMark_seqr_settings : (startMark s).seqr.settings = s.seqr.settings := by unfold startMark; split <;> rfl
@[simp] theorem startMark_seqr_state : (startMark s).seqr.state = s.seqr.state := by unfold startMark; split <;> rfl
@[simp] theorem startMark_seqr_snapshot : (startMark s).seqr.snapshot = s.seqr.snapshot := by unfold startMark; split <;> rfl

@[simp] theorem enterFired_pins : (enterFired s).pins = s.pins := by unfold enterFired; dsimp only; split <;> rfl
@[simp] theorem enterFired_linkUp : (enterFired s).linkUp = s.linkUp := by unfold enterFired; dsimp only; split <;> rfl
@[simp] theorem enterFired_near : (enterFired s).near = s.near := by unfold enterFired; dsimp only; split <;> rfl
@[simp] theorem enterFired_far : (enterFired s).far = s.far := by unfold enterFired; dsimp only; split <;> rfl
@[simp] theorem enterFired_time : (enterFired s).time = s.time := by unfold enterFired; dsimp only; split <;> rfl
@[simp] theorem enterFired_sources : (enterFired s).sources = s.sources := by unfold enterFired; dsimp only; split <;> rfl
@[simp] theorem enterFired_rules : (enterFired s).rules = s.rules := by unfold enterFired; dsimp only; split <;> rfl
@[simp] theorem enterFired_ort : (enterFired s).ort = s.ort := by unfold enterFired; dsimp only; split <;> rfl
@[simp] theorem enterFired_timers : (enterFired s).timers = s.timers := by unfold enterFired; dsimp only; split <;> rfl
@[simp] theorem enterFired_fill : (enterFired s).fill = s.fill := by unfold enterFired; dsimp only; split <;> rfl
@[simp] theorem enterFired_counters : (enterFired s).counters = s.counters := by unfold enterFired; dsimp only; split <;> rfl
@[simp] theorem enterFired_ring : (enterFired s).ring = s.ring := by unfold enterFired; dsimp only; split <;> rfl
@[simp] theorem enterFired_events : (enterFired s).events = s.events := by unfold enterFired; dsimp only; split <;> rfl
@[simp] theorem enterFired_port : (enterFired s).port = s.port := by unfold enterFired; dsimp only; split <;> rfl
@[simp] theorem enterFired_pending : (enterFired s).pending = s.pending := by unfold enterFired; dsimp only; split <;> rfl
@[simp] theorem enterFired_ctrl_mode : (enterFired s).ctrl.mode = s.ctrl.mode := by unfold enterFired; dsimp only; split <;> rfl
@[simp] theorem enterFired_ctrl_guardLock : (enterFired s).ctrl.guardLock = s.ctrl.guardLock := by unfold enterFired; dsimp only; split <;> rfl
@[simp] theorem enterFired_seqr_stages : (enterFired s).seqr.stages = s.seqr.stages := by unfold enterFired; dsimp only; split <;> rfl
@[simp] theorem enterFired_seqr_settings : (enterFired s).seqr.settings = s.seqr.settings := by unfold enterFired; dsimp only; split <;> rfl
@[simp] theorem enterFired_seqr_snapshot : (enterFired s).seqr.snapshot = s.seqr.snapshot := by unfold enterFired; dsimp only; split <;> rfl
@[simp] theorem enterFired_seqr_markFiredAt : (enterFired s).seqr.markFiredAt = s.seqr.markFiredAt := by unfold enterFired; dsimp only; split <;> rfl

@[simp] theorem fire_pins : (fire s).pins = s.pins := by unfold fire; dsimp only; split <;> simp
@[simp] theorem fire_linkUp : (fire s).linkUp = s.linkUp := by unfold fire; dsimp only; split <;> simp
@[simp] theorem fire_near : (fire s).near = s.near := by unfold fire; dsimp only; split <;> simp
@[simp] theorem fire_far : (fire s).far = s.far := by unfold fire; dsimp only; split <;> simp
@[simp] theorem fire_time : (fire s).time = s.time := by unfold fire; dsimp only; split <;> simp
@[simp] theorem fire_sources : (fire s).sources = s.sources := by unfold fire; dsimp only; split <;> simp
@[simp] theorem fire_rules : (fire s).rules = s.rules := by unfold fire; dsimp only; split <;> simp
@[simp] theorem fire_ort : (fire s).ort = s.ort := by unfold fire; dsimp only; split <;> simp
@[simp] theorem fire_timers : (fire s).timers = s.timers := by unfold fire; dsimp only; split <;> simp
@[simp] theorem fire_fill : (fire s).fill = s.fill := by unfold fire; dsimp only; split <;> simp
@[simp] theorem fire_counters : (fire s).counters = s.counters := by unfold fire; dsimp only; split <;> simp
@[simp] theorem fire_ring : (fire s).ring = s.ring := by unfold fire; dsimp only; split <;> simp
@[simp] theorem fire_port : (fire s).port = s.port := by unfold fire; dsimp only; split <;> simp
@[simp] theorem fire_pending : (fire s).pending = s.pending := by unfold fire; dsimp only; split <;> simp
@[simp] theorem fire_ctrl_mode : (fire s).ctrl.mode = s.ctrl.mode := by unfold fire; dsimp only; split <;> simp
@[simp] theorem fire_ctrl_guardLock : (fire s).ctrl.guardLock = s.ctrl.guardLock := by unfold fire; dsimp only; split <;> simp
@[simp] theorem fire_seqr_stages : (fire s).seqr.stages = s.seqr.stages := by unfold fire; dsimp only; split <;> simp
@[simp] theorem fire_seqr_settings : (fire s).seqr.settings = s.seqr.settings := by unfold fire; dsimp only; split <;> simp
@[simp] theorem fire_seqr_snapshot : (fire s).seqr.snapshot = s.seqr.snapshot := by unfold fire; dsimp only; split <;> simp

@[simp] theorem offerToSequencer_pins (m : RuleSet) : ((offerToSequencer m s).1).pins = s.pins := by unfold offerToSequencer; split <;> simp
@[simp] theorem offerToSequencer_linkUp (m : RuleSet) : ((offerToSequencer m s).1).linkUp = s.linkUp := by unfold offerToSequencer; split <;> simp
@[simp] theorem offerToSequencer_near (m : RuleSet) : ((offerToSequencer m s).1).near = s.near := by unfold offerToSequencer; split <;> simp
@[simp] theorem offerToSequencer_far (m : RuleSet) : ((offerToSequencer m s).1).far = s.far := by unfold offerToSequencer; split <;> simp
@[simp] theorem offerToSequencer_time (m : RuleSet) : ((offerToSequencer m s).1).time = s.time := by unfold offerToSequencer; split <;> simp
@[simp] theorem offerToSequencer_sources (m : RuleSet) : ((offerToSequencer m s).1).sources = s.sources := by unfold offerToSequencer; split <;> simp
@[simp] theorem offerToSequencer_rules (m : RuleSet) : ((offerToSequencer m s).1).rules = s.rules := by unfold offerToSequencer; split <;> simp
@[simp] theorem offerToSequencer_ort (m : RuleSet) : ((offerToSequencer m s).1).ort = s.ort := by unfold offerToSequencer; split <;> simp
@[simp] theorem offerToSequencer_timers (m : RuleSet) : ((offerToSequencer m s).1).timers = s.timers := by unfold offerToSequencer; split <;> simp
@[simp] theorem offerToSequencer_fill (m : RuleSet) : ((offerToSequencer m s).1).fill = s.fill := by unfold offerToSequencer; split <;> simp
@[simp] theorem offerToSequencer_counters (m : RuleSet) : ((offerToSequencer m s).1).counters = s.counters := by unfold offerToSequencer; split <;> simp
@[simp] theorem offerToSequencer_ring (m : RuleSet) : ((offerToSequencer m s).1).ring = s.ring := by unfold offerToSequencer; split <;> simp
@[simp] theorem offerToSequencer_port (m : RuleSet) : ((offerToSequencer m s).1).port = s.port := by unfold offerToSequencer; split <;> simp
@[simp] theorem offerToSequencer_pending (m : RuleSet) : ((offerToSequencer m s).1).pending = s.pending := by unfold offerToSequencer; split <;> simp
@[simp] theorem offerToSequencer_ctrl_mode (m : RuleSet) : ((offerToSequencer m s).1).ctrl.mode = s.ctrl.mode := by unfold offerToSequencer; split <;> simp
@[simp] theorem offerToSequencer_ctrl_guardLock (m : RuleSet) : ((offerToSequencer m s).1).ctrl.guardLock = s.ctrl.guardLock := by unfold offerToSequencer; split <;> simp
@[simp] theorem offerToSequencer_seqr_stages (m : RuleSet) : ((offerToSequencer m s).1).seqr.stages = s.seqr.stages := by unfold offerToSequencer; split <;> simp
@[simp] theorem offerToSequencer_seqr_settings (m : RuleSet) : ((offerToSequencer m s).1).seqr.settings = s.seqr.settings := by unfold offerToSequencer; split <;> simp
@[simp] theorem offerToSequencer_seqr_snapshot (m : RuleSet) : ((offerToSequencer m s).1).seqr.snapshot = s.seqr.snapshot := by unfold offerToSequencer; split <;> simp

@[simp] theorem countPost_pins : (countPost s).pins = s.pins := by unfold countPost; split <;> (try split) <;> simp
@[simp] theorem countPost_linkUp : (countPost s).linkUp = s.linkUp := by unfold countPost; split <;> (try split) <;> simp
@[simp] theorem countPost_near : (countPost s).near = s.near := by unfold countPost; split <;> (try split) <;> simp
@[simp] theorem countPost_far : (countPost s).far = s.far := by unfold countPost; split <;> (try split) <;> simp
@[simp] theorem countPost_time : (countPost s).time = s.time := by unfold countPost; split <;> (try split) <;> simp
@[simp] theorem countPost_sources : (countPost s).sources = s.sources := by unfold countPost; split <;> (try split) <;> simp
@[simp] theorem countPost_rules : (countPost s).rules = s.rules := by unfold countPost; split <;> (try split) <;> simp
@[simp] theorem countPost_ort : (countPost s).ort = s.ort := by unfold countPost; split <;> (try split) <;> simp
@[simp] theorem countPost_timers : (countPost s).timers = s.timers := by unfold countPost; split <;> (try split) <;> simp
@[simp] theorem countPost_fill : (countPost s).fill = s.fill := by unfold countPost; split <;> (try split) <;> simp
@[simp] theorem countPost_counters : (countPost s).counters = s.counters := by unfold countPost; split <;> (try split) <;> simp
@[simp] theorem countPost_ring : (countPost s).ring = s.ring := by unfold countPost; split <;> (try split) <;> simp
@[simp] theorem countPost_events : (countPost s).events = s.events := by unfold countPost; split <;> (try split) <;> simp
@[simp] theorem countPost_port : (countPost s).port = s.port := by unfold countPost; split <;> (try split) <;> simp
@[simp] theorem countPost_pending : (countPost s).pending = s.pending := by unfold countPost; split <;> (try split) <;> simp
@[simp] theorem countPost_ctrl_mode : (countPost s).ctrl.mode = s.ctrl.mode := by unfold countPost; split <;> (try split) <;> simp
@[simp] theorem countPost_ctrl_guardLock : (countPost s).ctrl.guardLock = s.ctrl.guardLock := by unfold countPost; split <;> (try split) <;> simp
@[simp] theorem countPost_seqr_stages : (countPost s).seqr.stages = s.seqr.stages := by unfold countPost; split <;> (try split) <;> simp
@[simp] theorem countPost_seqr_settings : (countPost s).seqr.settings = s.seqr.settings := by unfold countPost; split <;> (try split) <;> simp
@[simp] theorem countPost_seqr_snapshot : (countPost s).seqr.snapshot = s.seqr.snapshot := by unfold countPost; split <;> (try split) <;> simp
@[simp] theorem countPost_seqr_markFiredAt : (countPost s).seqr.markFiredAt = s.seqr.markFiredAt := by unfold countPost; split <;> (try split) <;> simp

@[simp] theorem takeSnapshot_pins (r : Record) : (takeSnapshot r s).pins = s.pins := by unfold takeSnapshot; split <;> rfl
@[simp] theorem takeSnapshot_linkUp (r : Record) : (takeSnapshot r s).linkUp = s.linkUp := by unfold takeSnapshot; split <;> rfl
@[simp] theorem takeSnapshot_near (r : Record) : (takeSnapshot r s).near = s.near := by unfold takeSnapshot; split <;> rfl
@[simp] theorem takeSnapshot_far (r : Record) : (takeSnapshot r s).far = s.far := by unfold takeSnapshot; split <;> rfl
@[simp] theorem takeSnapshot_ctrl (r : Record) : (takeSnapshot r s).ctrl = s.ctrl := by unfold takeSnapshot; split <;> rfl
@[simp] theorem takeSnapshot_time (r : Record) : (takeSnapshot r s).time = s.time := by unfold takeSnapshot; split <;> rfl
@[simp] theorem takeSnapshot_sources (r : Record) : (takeSnapshot r s).sources = s.sources := by unfold takeSnapshot; split <;> rfl
@[simp] theorem takeSnapshot_rules (r : Record) : (takeSnapshot r s).rules = s.rules := by unfold takeSnapshot; split <;> rfl
@[simp] theorem takeSnapshot_ort (r : Record) : (takeSnapshot r s).ort = s.ort := by unfold takeSnapshot; split <;> rfl
@[simp] theorem takeSnapshot_timers (r : Record) : (takeSnapshot r s).timers = s.timers := by unfold takeSnapshot; split <;> rfl
@[simp] theorem takeSnapshot_fill (r : Record) : (takeSnapshot r s).fill = s.fill := by unfold takeSnapshot; split <;> rfl
@[simp] theorem takeSnapshot_counters (r : Record) : (takeSnapshot r s).counters = s.counters := by unfold takeSnapshot; split <;> rfl
@[simp] theorem takeSnapshot_ring (r : Record) : (takeSnapshot r s).ring = s.ring := by unfold takeSnapshot; split <;> rfl
@[simp] theorem takeSnapshot_events (r : Record) : (takeSnapshot r s).events = s.events := by unfold takeSnapshot; split <;> rfl
@[simp] theorem takeSnapshot_port (r : Record) : (takeSnapshot r s).port = s.port := by unfold takeSnapshot; split <;> rfl
@[simp] theorem takeSnapshot_pending (r : Record) : (takeSnapshot r s).pending = s.pending := by unfold takeSnapshot; split <;> rfl
@[simp] theorem takeSnapshot_seqr_stages (r : Record) : (takeSnapshot r s).seqr.stages = s.seqr.stages := by unfold takeSnapshot; split <;> rfl
@[simp] theorem takeSnapshot_seqr_settings (r : Record) : (takeSnapshot r s).seqr.settings = s.seqr.settings := by unfold takeSnapshot; split <;> rfl
@[simp] theorem takeSnapshot_seqr_state (r : Record) : (takeSnapshot r s).seqr.state = s.seqr.state := by unfold takeSnapshot; split <;> rfl
@[simp] theorem takeSnapshot_seqr_markFiredAt (r : Record) : (takeSnapshot r s).seqr.markFiredAt = s.seqr.markFiredAt := by unfold takeSnapshot; split <;> rfl

@[simp] theorem createRecord_pins (m : RuleSet) (x : Transaction) (fired : Bool) : ((createRecord m x fired s).1).pins = s.pins := by unfold createRecord; dsimp only; split <;> simp
@[simp] theorem createRecord_linkUp (m : RuleSet) (x : Transaction) (fired : Bool) : ((createRecord m x fired s).1).linkUp = s.linkUp := by unfold createRecord; dsimp only; split <;> simp
@[simp] theorem createRecord_near (m : RuleSet) (x : Transaction) (fired : Bool) : ((createRecord m x fired s).1).near = s.near := by unfold createRecord; dsimp only; split <;> simp
@[simp] theorem createRecord_far (m : RuleSet) (x : Transaction) (fired : Bool) : ((createRecord m x fired s).1).far = s.far := by unfold createRecord; dsimp only; split <;> simp
@[simp] theorem createRecord_time (m : RuleSet) (x : Transaction) (fired : Bool) : ((createRecord m x fired s).1).time = s.time := by unfold createRecord; dsimp only; split <;> simp
@[simp] theorem createRecord_sources (m : RuleSet) (x : Transaction) (fired : Bool) : ((createRecord m x fired s).1).sources = s.sources := by unfold createRecord; dsimp only; split <;> simp
@[simp] theorem createRecord_rules (m : RuleSet) (x : Transaction) (fired : Bool) : ((createRecord m x fired s).1).rules = s.rules := by unfold createRecord; dsimp only; split <;> simp
@[simp] theorem createRecord_ort (m : RuleSet) (x : Transaction) (fired : Bool) : ((createRecord m x fired s).1).ort = s.ort := by unfold createRecord; dsimp only; split <;> simp
@[simp] theorem createRecord_timers (m : RuleSet) (x : Transaction) (fired : Bool) : ((createRecord m x fired s).1).timers = s.timers := by unfold createRecord; dsimp only; split <;> simp
@[simp] theorem createRecord_fill (m : RuleSet) (x : Transaction) (fired : Bool) : ((createRecord m x fired s).1).fill = s.fill := by unfold createRecord; dsimp only; split <;> simp
@[simp] theorem createRecord_counters (m : RuleSet) (x : Transaction) (fired : Bool) : ((createRecord m x fired s).1).counters = s.counters := by unfold createRecord; dsimp only; split <;> simp
@[simp] theorem createRecord_events (m : RuleSet) (x : Transaction) (fired : Bool) : ((createRecord m x fired s).1).events = s.events := by unfold createRecord; dsimp only; split <;> simp
@[simp] theorem createRecord_port (m : RuleSet) (x : Transaction) (fired : Bool) : ((createRecord m x fired s).1).port = s.port := by unfold createRecord; dsimp only; split <;> simp
@[simp] theorem createRecord_pending (m : RuleSet) (x : Transaction) (fired : Bool) : ((createRecord m x fired s).1).pending = s.pending := by unfold createRecord; dsimp only; split <;> simp
@[simp] theorem createRecord_ctrl_mode (m : RuleSet) (x : Transaction) (fired : Bool) : ((createRecord m x fired s).1).ctrl.mode = s.ctrl.mode := by unfold createRecord; dsimp only; split <;> simp
@[simp] theorem createRecord_ctrl_guardLock (m : RuleSet) (x : Transaction) (fired : Bool) : ((createRecord m x fired s).1).ctrl.guardLock = s.ctrl.guardLock := by unfold createRecord; dsimp only; split <;> simp
@[simp] theorem createRecord_seqr_stages (m : RuleSet) (x : Transaction) (fired : Bool) : ((createRecord m x fired s).1).seqr.stages = s.seqr.stages := by unfold createRecord; dsimp only; split <;> simp
@[simp] theorem createRecord_seqr_settings (m : RuleSet) (x : Transaction) (fired : Bool) : ((createRecord m x fired s).1).seqr.settings = s.seqr.settings := by unfold createRecord; dsimp only; split <;> simp
@[simp] theorem createRecord_ring_config (m : RuleSet) (x : Transaction) (fired : Bool) : ((createRecord m x fired s).1).ring.config = s.ring.config := by unfold createRecord; dsimp only; split <;> simp
@[simp] theorem createRecord_ring_p (m : RuleSet) (x : Transaction) (fired : Bool) : ((createRecord m x fired s).1).ring.p = s.ring.p := by unfold createRecord; dsimp only; split <;> simp
@[simp] theorem createRecord_ring_c (m : RuleSet) (x : Transaction) (fired : Bool) : ((createRecord m x fired s).1).ring.c = s.ring.c := by unfold createRecord; dsimp only; split <;> simp
@[simp] theorem createRecord_ring_overrun (m : RuleSet) (x : Transaction) (fired : Bool) : ((createRecord m x fired s).1).ring.overrun = s.ring.overrun := by unfold createRecord; dsimp only; split <;> simp
@[simp] theorem createRecord_ring_overrunSeen (m : RuleSet) (x : Transaction) (fired : Bool) : ((createRecord m x fired s).1).ring.overrunSeen = s.ring.overrunSeen := by unfold createRecord; dsimp only; split <;> simp
@[simp] theorem createRecord_ring_loss (m : RuleSet) (x : Transaction) (fired : Bool) : ((createRecord m x fired s).1).ring.loss = s.ring.loss := by unfold createRecord; dsimp only; split <;> simp
@[simp] theorem createRecord_ring_queue (m : RuleSet) (x : Transaction) (fired : Bool) : ((createRecord m x fired s).1).ring.queue = s.ring.queue := by unfold createRecord; dsimp only; split <;> simp
@[simp] theorem createRecord_ring_writer (m : RuleSet) (x : Transaction) (fired : Bool) : ((createRecord m x fired s).1).ring.writer = s.ring.writer := by unfold createRecord; dsimp only; split <;> simp

@[simp] theorem resolve_pins (m : RuleSet) (x : Transaction) (refused : Bool) : ((resolve m x refused s).1).pins = s.pins := by unfold resolve; dsimp only; split <;> (try split) <;> simp
@[simp] theorem resolve_linkUp (m : RuleSet) (x : Transaction) (refused : Bool) : ((resolve m x refused s).1).linkUp = s.linkUp := by unfold resolve; dsimp only; split <;> (try split) <;> simp
@[simp] theorem resolve_near (m : RuleSet) (x : Transaction) (refused : Bool) : ((resolve m x refused s).1).near = s.near := by unfold resolve; dsimp only; split <;> (try split) <;> simp
@[simp] theorem resolve_far (m : RuleSet) (x : Transaction) (refused : Bool) : ((resolve m x refused s).1).far = s.far := by unfold resolve; dsimp only; split <;> (try split) <;> simp
@[simp] theorem resolve_time (m : RuleSet) (x : Transaction) (refused : Bool) : ((resolve m x refused s).1).time = s.time := by unfold resolve; dsimp only; split <;> (try split) <;> simp
@[simp] theorem resolve_sources (m : RuleSet) (x : Transaction) (refused : Bool) : ((resolve m x refused s).1).sources = s.sources := by unfold resolve; dsimp only; split <;> (try split) <;> simp
@[simp] theorem resolve_rules (m : RuleSet) (x : Transaction) (refused : Bool) : ((resolve m x refused s).1).rules = s.rules := by unfold resolve; dsimp only; split <;> (try split) <;> simp
@[simp] theorem resolve_ort (m : RuleSet) (x : Transaction) (refused : Bool) : ((resolve m x refused s).1).ort = s.ort := by unfold resolve; dsimp only; split <;> (try split) <;> simp
@[simp] theorem resolve_timers (m : RuleSet) (x : Transaction) (refused : Bool) : ((resolve m x refused s).1).timers = s.timers := by unfold resolve; dsimp only; split <;> (try split) <;> simp
@[simp] theorem resolve_fill (m : RuleSet) (x : Transaction) (refused : Bool) : ((resolve m x refused s).1).fill = s.fill := by unfold resolve; dsimp only; split <;> (try split) <;> simp
@[simp] theorem resolve_port (m : RuleSet) (x : Transaction) (refused : Bool) : ((resolve m x refused s).1).port = s.port := by unfold resolve; dsimp only; split <;> (try split) <;> simp
@[simp] theorem resolve_pending (m : RuleSet) (x : Transaction) (refused : Bool) : ((resolve m x refused s).1).pending = s.pending := by unfold resolve; dsimp only; split <;> (try split) <;> simp
@[simp] theorem resolve_ctrl_mode (m : RuleSet) (x : Transaction) (refused : Bool) : ((resolve m x refused s).1).ctrl.mode = s.ctrl.mode := by unfold resolve; dsimp only; split <;> (try split) <;> simp
@[simp] theorem resolve_ctrl_guardLock (m : RuleSet) (x : Transaction) (refused : Bool) : ((resolve m x refused s).1).ctrl.guardLock = s.ctrl.guardLock := by unfold resolve; dsimp only; split <;> (try split) <;> simp
@[simp] theorem resolve_seqr_stages (m : RuleSet) (x : Transaction) (refused : Bool) : ((resolve m x refused s).1).seqr.stages = s.seqr.stages := by unfold resolve; dsimp only; split <;> (try split) <;> simp
@[simp] theorem resolve_seqr_settings (m : RuleSet) (x : Transaction) (refused : Bool) : ((resolve m x refused s).1).seqr.settings = s.seqr.settings := by unfold resolve; dsimp only; split <;> (try split) <;> simp
@[simp] theorem resolve_ring_config (m : RuleSet) (x : Transaction) (refused : Bool) : ((resolve m x refused s).1).ring.config = s.ring.config := by unfold resolve; dsimp only; split <;> (try split) <;> simp
@[simp] theorem resolve_ring_p (m : RuleSet) (x : Transaction) (refused : Bool) : ((resolve m x refused s).1).ring.p = s.ring.p := by unfold resolve; dsimp only; split <;> (try split) <;> simp
@[simp] theorem resolve_ring_c (m : RuleSet) (x : Transaction) (refused : Bool) : ((resolve m x refused s).1).ring.c = s.ring.c := by unfold resolve; dsimp only; split <;> (try split) <;> simp
@[simp] theorem resolve_ring_overrun (m : RuleSet) (x : Transaction) (refused : Bool) : ((resolve m x refused s).1).ring.overrun = s.ring.overrun := by unfold resolve; dsimp only; split <;> (try split) <;> simp
@[simp] theorem resolve_ring_overrunSeen (m : RuleSet) (x : Transaction) (refused : Bool) : ((resolve m x refused s).1).ring.overrunSeen = s.ring.overrunSeen := by unfold resolve; dsimp only; split <;> (try split) <;> simp
@[simp] theorem resolve_ring_loss (m : RuleSet) (x : Transaction) (refused : Bool) : ((resolve m x refused s).1).ring.loss = s.ring.loss := by unfold resolve; dsimp only; split <;> (try split) <;> simp
@[simp] theorem resolve_ring_queue (m : RuleSet) (x : Transaction) (refused : Bool) : ((resolve m x refused s).1).ring.queue = s.ring.queue := by unfold resolve; dsimp only; split <;> (try split) <;> simp
@[simp] theorem resolve_ring_writer (m : RuleSet) (x : Transaction) (refused : Bool) : ((resolve m x refused s).1).ring.writer = s.ring.writer := by unfold resolve; dsimp only; split <;> (try split) <;> simp

end Sys2Proof.Machine
end

