-- ==== Sys2Proof/Laws/Paths.lean ====
section
/-! SUPPORT. The fields that each step of the two paths keeps: capture, hold, the consumer snoop, expiry, mode entry. -/

namespace Sys2Proof.Machine

set_option Elab.async false

variable (s : State)

@[simp] theorem continueRequest_pins (next : AfterCapture) : (continueRequest next s).pins = s.pins := by cases next <;> rfl
@[simp] theorem continueRequest_linkUp (next : AfterCapture) : (continueRequest next s).linkUp = s.linkUp := by cases next <;> rfl
@[simp] theorem continueRequest_far (next : AfterCapture) : (continueRequest next s).far = s.far := by cases next <;> rfl
@[simp] theorem continueRequest_ctrl (next : AfterCapture) : (continueRequest next s).ctrl = s.ctrl := by cases next <;> rfl
@[simp] theorem continueRequest_time (next : AfterCapture) : (continueRequest next s).time = s.time := by cases next <;> rfl
@[simp] theorem continueRequest_sources (next : AfterCapture) : (continueRequest next s).sources = s.sources := by cases next <;> rfl
@[simp] theorem continueRequest_rules (next : AfterCapture) : (continueRequest next s).rules = s.rules := by cases next <;> rfl
@[simp] theorem continueRequest_ort (next : AfterCapture) : (continueRequest next s).ort = s.ort := by cases next <;> rfl
@[simp] theorem continueRequest_timers (next : AfterCapture) : (continueRequest next s).timers = s.timers := by cases next <;> rfl
@[simp] theorem continueRequest_fill (next : AfterCapture) : (continueRequest next s).fill = s.fill := by cases next <;> rfl
@[simp] theorem continueRequest_ring (next : AfterCapture) : (continueRequest next s).ring = s.ring := by cases next <;> rfl
@[simp] theorem continueRequest_seqr (next : AfterCapture) : (continueRequest next s).seqr = s.seqr := by cases next <;> rfl
@[simp] theorem continueRequest_events (next : AfterCapture) : (continueRequest next s).events = s.events := by cases next <;> rfl
@[simp] theorem continueRequest_port (next : AfterCapture) : (continueRequest next s).port = s.port := by cases next <;> rfl
@[simp] theorem continueRequest_pending (next : AfterCapture) : (continueRequest next s).pending = s.pending := by cases next <;> rfl
@[simp] theorem continueRequest_near_credits (next : AfterCapture) : (continueRequest next s).near.credits = s.near.credits := by cases next <;> rfl
@[simp] theorem continueRequest_near_sent (next : AfterCapture) : (continueRequest next s).near.sent = s.near.sent := by cases next <;> rfl
@[simp] theorem continueRequest_near_lastWinner (next : AfterCapture) : (continueRequest next s).near.lastWinner = s.near.lastWinner := by cases next <;> rfl
@[simp] theorem continueRequest_near_refusals (next : AfterCapture) : (continueRequest next s).near.refusals = s.near.refusals := by cases next <;> rfl
@[simp] theorem continueRequest_counters_perRule (next : AfterCapture) : (continueRequest next s).counters.perRule = s.counters.perRule := by cases next <;> rfl

@[simp] theorem placeRequest_pins (r : Record) (next : AfterCapture) : (placeRequest r next s).pins = s.pins := by unfold placeRequest; split <;> simp
@[simp] theorem placeRequest_linkUp (r : Record) (next : AfterCapture) : (placeRequest r next s).linkUp = s.linkUp := by unfold placeRequest; split <;> simp
@[simp] theorem placeRequest_far (r : Record) (next : AfterCapture) : (placeRequest r next s).far = s.far := by unfold placeRequest; split <;> simp
@[simp] theorem placeRequest_ctrl (r : Record) (next : AfterCapture) : (placeRequest r next s).ctrl = s.ctrl := by unfold placeRequest; split <;> simp
@[simp] theorem placeRequest_time (r : Record) (next : AfterCapture) : (placeRequest r next s).time = s.time := by unfold placeRequest; split <;> simp
@[simp] theorem placeRequest_sources (r : Record) (next : AfterCapture) : (placeRequest r next s).sources = s.sources := by unfold placeRequest; split <;> simp
@[simp] theorem placeRequest_rules (r : Record) (next : AfterCapture) : (placeRequest r next s).rules = s.rules := by unfold placeRequest; split <;> simp
@[simp] theorem placeRequest_ort (r : Record) (next : AfterCapture) : (placeRequest r next s).ort = s.ort := by unfold placeRequest; split <;> simp
@[simp] theorem placeRequest_timers (r : Record) (next : AfterCapture) : (placeRequest r next s).timers = s.timers := by unfold placeRequest; split <;> simp
@[simp] theorem placeRequest_fill (r : Record) (next : AfterCapture) : (placeRequest r next s).fill = s.fill := by unfold placeRequest; split <;> simp
@[simp] theorem placeRequest_seqr (r : Record) (next : AfterCapture) : (placeRequest r next s).seqr = s.seqr := by unfold placeRequest; split <;> simp
@[simp] theorem placeRequest_events (r : Record) (next : AfterCapture) : (placeRequest r next s).events = s.events := by unfold placeRequest; split <;> simp
@[simp] theorem placeRequest_port (r : Record) (next : AfterCapture) : (placeRequest r next s).port = s.port := by unfold placeRequest; split <;> simp
@[simp] theorem placeRequest_pending (r : Record) (next : AfterCapture) : (placeRequest r next s).pending = s.pending := by unfold placeRequest; split <;> simp
@[simp] theorem placeRequest_near_credits (r : Record) (next : AfterCapture) : (placeRequest r next s).near.credits = s.near.credits := by unfold placeRequest; split <;> simp
@[simp] theorem placeRequest_near_sent (r : Record) (next : AfterCapture) : (placeRequest r next s).near.sent = s.near.sent := by unfold placeRequest; split <;> simp
@[simp] theorem placeRequest_near_lastWinner (r : Record) (next : AfterCapture) : (placeRequest r next s).near.lastWinner = s.near.lastWinner := by unfold placeRequest; split <;> simp
@[simp] theorem placeRequest_near_refusals (r : Record) (next : AfterCapture) : (placeRequest r next s).near.refusals = s.near.refusals := by unfold placeRequest; split <;> simp
@[simp] theorem placeRequest_ring_config (r : Record) (next : AfterCapture) : (placeRequest r next s).ring.config = s.ring.config := by unfold placeRequest; split <;> simp
@[simp] theorem placeRequest_ring_p (r : Record) (next : AfterCapture) : (placeRequest r next s).ring.p = s.ring.p := by unfold placeRequest; split <;> simp
@[simp] theorem placeRequest_ring_c (r : Record) (next : AfterCapture) : (placeRequest r next s).ring.c = s.ring.c := by unfold placeRequest; split <;> simp
@[simp] theorem placeRequest_ring_seq (r : Record) (next : AfterCapture) : (placeRequest r next s).ring.seq = s.ring.seq := by unfold placeRequest; split <;> simp
@[simp] theorem placeRequest_ring_overrun (r : Record) (next : AfterCapture) : (placeRequest r next s).ring.overrun = s.ring.overrun := by unfold placeRequest; split <;> simp
@[simp] theorem placeRequest_ring_overrunSeen (r : Record) (next : AfterCapture) : (placeRequest r next s).ring.overrunSeen = s.ring.overrunSeen := by unfold placeRequest; split <;> simp
@[simp] theorem placeRequest_ring_loss (r : Record) (next : AfterCapture) : (placeRequest r next s).ring.loss = s.ring.loss := by unfold placeRequest; split <;> simp
@[simp] theorem placeRequest_ring_writer (r : Record) (next : AfterCapture) : (placeRequest r next s).ring.writer = s.ring.writer := by unfold placeRequest; split <;> simp

@[simp] theorem placeResponse_pins (r : Record) (p : ResponsePacket) : (placeResponse r p s).pins = s.pins := by unfold placeResponse; split <;> simp
@[simp] theorem placeResponse_linkUp (r : Record) (p : ResponsePacket) : (placeResponse r p s).linkUp = s.linkUp := by unfold placeResponse; split <;> simp
@[simp] theorem placeResponse_near (r : Record) (p : ResponsePacket) : (placeResponse r p s).near = s.near := by unfold placeResponse; split <;> simp
@[simp] theorem placeResponse_ctrl (r : Record) (p : ResponsePacket) : (placeResponse r p s).ctrl = s.ctrl := by unfold placeResponse; split <;> simp
@[simp] theorem placeResponse_time (r : Record) (p : ResponsePacket) : (placeResponse r p s).time = s.time := by unfold placeResponse; split <;> simp
@[simp] theorem placeResponse_sources (r : Record) (p : ResponsePacket) : (placeResponse r p s).sources = s.sources := by unfold placeResponse; split <;> simp
@[simp] theorem placeResponse_rules (r : Record) (p : ResponsePacket) : (placeResponse r p s).rules = s.rules := by unfold placeResponse; split <;> simp
@[simp] theorem placeResponse_ort (r : Record) (p : ResponsePacket) : (placeResponse r p s).ort = s.ort := by unfold placeResponse; split <;> simp
@[simp] theorem placeResponse_timers (r : Record) (p : ResponsePacket) : (placeResponse r p s).timers = s.timers := by unfold placeResponse; split <;> simp
@[simp] theorem placeResponse_fill (r : Record) (p : ResponsePacket) : (placeResponse r p s).fill = s.fill := by unfold placeResponse; split <;> simp
@[simp] theorem placeResponse_counters (r : Record) (p : ResponsePacket) : (placeResponse r p s).counters = s.counters := by unfold placeResponse; split <;> simp
@[simp] theorem placeResponse_seqr (r : Record) (p : ResponsePacket) : (placeResponse r p s).seqr = s.seqr := by unfold placeResponse; split <;> simp
@[simp] theorem placeResponse_events (r : Record) (p : ResponsePacket) : (placeResponse r p s).events = s.events := by unfold placeResponse; split <;> simp
@[simp] theorem placeResponse_port (r : Record) (p : ResponsePacket) : (placeResponse r p s).port = s.port := by unfold placeResponse; split <;> simp
@[simp] theorem placeResponse_pending (r : Record) (p : ResponsePacket) : (placeResponse r p s).pending = s.pending := by unfold placeResponse; split <;> simp
@[simp] theorem placeResponse_far_credits (r : Record) (p : ResponsePacket) : (placeResponse r p s).far.credits = s.far.credits := by unfold placeResponse; split <;> simp
@[simp] theorem placeResponse_far_sent (r : Record) (p : ResponsePacket) : (placeResponse r p s).far.sent = s.far.sent := by unfold placeResponse; split <;> simp
@[simp] theorem placeResponse_far_lastWinner (r : Record) (p : ResponsePacket) : (placeResponse r p s).far.lastWinner = s.far.lastWinner := by unfold placeResponse; split <;> simp
@[simp] theorem placeResponse_far_buffer (r : Record) (p : ResponsePacket) : (placeResponse r p s).far.buffer = s.far.buffer := by unfold placeResponse; split <;> simp
@[simp] theorem placeResponse_far_granted (r : Record) (p : ResponsePacket) : (placeResponse r p s).far.granted = s.far.granted := by unfold placeResponse; split <;> simp
@[simp] theorem placeResponse_ring_config (r : Record) (p : ResponsePacket) : (placeResponse r p s).ring.config = s.ring.config := by unfold placeResponse; split <;> simp
@[simp] theorem placeResponse_ring_p (r : Record) (p : ResponsePacket) : (placeResponse r p s).ring.p = s.ring.p := by unfold placeResponse; split <;> simp
@[simp] theorem placeResponse_ring_c (r : Record) (p : ResponsePacket) : (placeResponse r p s).ring.c = s.ring.c := by unfold placeResponse; split <;> simp
@[simp] theorem placeResponse_ring_seq (r : Record) (p : ResponsePacket) : (placeResponse r p s).ring.seq = s.ring.seq := by unfold placeResponse; split <;> simp
@[simp] theorem placeResponse_ring_overrun (r : Record) (p : ResponsePacket) : (placeResponse r p s).ring.overrun = s.ring.overrun := by unfold placeResponse; split <;> simp
@[simp] theorem placeResponse_ring_overrunSeen (r : Record) (p : ResponsePacket) : (placeResponse r p s).ring.overrunSeen = s.ring.overrunSeen := by unfold placeResponse; split <;> simp
@[simp] theorem placeResponse_ring_loss (r : Record) (p : ResponsePacket) : (placeResponse r p s).ring.loss = s.ring.loss := by unfold placeResponse; split <;> simp
@[simp] theorem placeResponse_ring_writer (r : Record) (p : ResponsePacket) : (placeResponse r p s).ring.writer = s.ring.writer := by unfold placeResponse; split <;> simp

@[simp] theorem captureRequest_pins (r : Option Record) (next : AfterCapture) : (captureRequest r next s).pins = s.pins := by unfold captureRequest; split <;> (try split) <;> simp
@[simp] theorem captureRequest_linkUp (r : Option Record) (next : AfterCapture) : (captureRequest r next s).linkUp = s.linkUp := by unfold captureRequest; split <;> (try split) <;> simp
@[simp] theorem captureRequest_far (r : Option Record) (next : AfterCapture) : (captureRequest r next s).far = s.far := by unfold captureRequest; split <;> (try split) <;> simp
@[simp] theorem captureRequest_ctrl (r : Option Record) (next : AfterCapture) : (captureRequest r next s).ctrl = s.ctrl := by unfold captureRequest; split <;> (try split) <;> simp
@[simp] theorem captureRequest_time (r : Option Record) (next : AfterCapture) : (captureRequest r next s).time = s.time := by unfold captureRequest; split <;> (try split) <;> simp
@[simp] theorem captureRequest_sources (r : Option Record) (next : AfterCapture) : (captureRequest r next s).sources = s.sources := by unfold captureRequest; split <;> (try split) <;> simp
@[simp] theorem captureRequest_rules (r : Option Record) (next : AfterCapture) : (captureRequest r next s).rules = s.rules := by unfold captureRequest; split <;> (try split) <;> simp
@[simp] theorem captureRequest_ort (r : Option Record) (next : AfterCapture) : (captureRequest r next s).ort = s.ort := by unfold captureRequest; split <;> (try split) <;> simp
@[simp] theorem captureRequest_timers (r : Option Record) (next : AfterCapture) : (captureRequest r next s).timers = s.timers := by unfold captureRequest; split <;> (try split) <;> simp
@[simp] theorem captureRequest_fill (r : Option Record) (next : AfterCapture) : (captureRequest r next s).fill = s.fill := by unfold captureRequest; split <;> (try split) <;> simp
@[simp] theorem captureRequest_seqr (r : Option Record) (next : AfterCapture) : (captureRequest r next s).seqr = s.seqr := by unfold captureRequest; split <;> (try split) <;> simp
@[simp] theorem captureRequest_port (r : Option Record) (next : AfterCapture) : (captureRequest r next s).port = s.port := by unfold captureRequest; split <;> (try split) <;> simp
@[simp] theorem captureRequest_pending (r : Option Record) (next : AfterCapture) : (captureRequest r next s).pending = s.pending := by unfold captureRequest; split <;> (try split) <;> simp
@[simp] theorem captureRequest_near_credits (r : Option Record) (next : AfterCapture) : (captureRequest r next s).near.credits = s.near.credits := by unfold captureRequest; split <;> (try split) <;> simp
@[simp] theorem captureRequest_near_sent (r : Option Record) (next : AfterCapture) : (captureRequest r next s).near.sent = s.near.sent := by unfold captureRequest; split <;> (try split) <;> simp
@[simp] theorem captureRequest_near_lastWinner (r : Option Record) (next : AfterCapture) : (captureRequest r next s).near.lastWinner = s.near.lastWinner := by unfold captureRequest; split <;> (try split) <;> simp
@[simp] theorem captureRequest_near_refusals (r : Option Record) (next : AfterCapture) : (captureRequest r next s).near.refusals = s.near.refusals := by unfold captureRequest; split <;> (try split) <;> simp
@[simp] theorem captureRequest_ring_config (r : Option Record) (next : AfterCapture) : (captureRequest r next s).ring.config = s.ring.config := by unfold captureRequest; split <;> (try split) <;> simp
@[simp] theorem captureRequest_ring_p (r : Option Record) (next : AfterCapture) : (captureRequest r next s).ring.p = s.ring.p := by unfold captureRequest; split <;> (try split) <;> simp
@[simp] theorem captureRequest_ring_c (r : Option Record) (next : AfterCapture) : (captureRequest r next s).ring.c = s.ring.c := by unfold captureRequest; split <;> (try split) <;> simp
@[simp] theorem captureRequest_ring_seq (r : Option Record) (next : AfterCapture) : (captureRequest r next s).ring.seq = s.ring.seq := by unfold captureRequest; split <;> (try split) <;> simp
@[simp] theorem captureRequest_ring_overrunSeen (r : Option Record) (next : AfterCapture) : (captureRequest r next s).ring.overrunSeen = s.ring.overrunSeen := by unfold captureRequest; split <;> (try split) <;> simp
@[simp] theorem captureRequest_ring_writer (r : Option Record) (next : AfterCapture) : (captureRequest r next s).ring.writer = s.ring.writer := by unfold captureRequest; split <;> (try split) <;> simp

@[simp] theorem captureResponse_pins (r : Option Record) (p : ResponsePacket) : (captureResponse r p s).pins = s.pins := by unfold captureResponse; split <;> (try split) <;> simp
@[simp] theorem captureResponse_linkUp (r : Option Record) (p : ResponsePacket) : (captureResponse r p s).linkUp = s.linkUp := by unfold captureResponse; split <;> (try split) <;> simp
@[simp] theorem captureResponse_near (r : Option Record) (p : ResponsePacket) : (captureResponse r p s).near = s.near := by unfold captureResponse; split <;> (try split) <;> simp
@[simp] theorem captureResponse_ctrl (r : Option Record) (p : ResponsePacket) : (captureResponse r p s).ctrl = s.ctrl := by unfold captureResponse; split <;> (try split) <;> simp
@[simp] theorem captureResponse_time (r : Option Record) (p : ResponsePacket) : (captureResponse r p s).time = s.time := by unfold captureResponse; split <;> (try split) <;> simp
@[simp] theorem captureResponse_sources (r : Option Record) (p : ResponsePacket) : (captureResponse r p s).sources = s.sources := by unfold captureResponse; split <;> (try split) <;> simp
@[simp] theorem captureResponse_rules (r : Option Record) (p : ResponsePacket) : (captureResponse r p s).rules = s.rules := by unfold captureResponse; split <;> (try split) <;> simp
@[simp] theorem captureResponse_ort (r : Option Record) (p : ResponsePacket) : (captureResponse r p s).ort = s.ort := by unfold captureResponse; split <;> (try split) <;> simp
@[simp] theorem captureResponse_timers (r : Option Record) (p : ResponsePacket) : (captureResponse r p s).timers = s.timers := by unfold captureResponse; split <;> (try split) <;> simp
@[simp] theorem captureResponse_fill (r : Option Record) (p : ResponsePacket) : (captureResponse r p s).fill = s.fill := by unfold captureResponse; split <;> (try split) <;> simp
@[simp] theorem captureResponse_counters (r : Option Record) (p : ResponsePacket) : (captureResponse r p s).counters = s.counters := by unfold captureResponse; split <;> (try split) <;> simp
@[simp] theorem captureResponse_seqr (r : Option Record) (p : ResponsePacket) : (captureResponse r p s).seqr = s.seqr := by unfold captureResponse; split <;> (try split) <;> simp
@[simp] theorem captureResponse_port (r : Option Record) (p : ResponsePacket) : (captureResponse r p s).port = s.port := by unfold captureResponse; split <;> (try split) <;> simp
@[simp] theorem captureResponse_pending (r : Option Record) (p : ResponsePacket) : (captureResponse r p s).pending = s.pending := by unfold captureResponse; split <;> (try split) <;> simp
@[simp] theorem captureResponse_far_credits (r : Option Record) (p : ResponsePacket) : (captureResponse r p s).far.credits = s.far.credits := by unfold captureResponse; split <;> (try split) <;> simp
@[simp] theorem captureResponse_far_sent (r : Option Record) (p : ResponsePacket) : (captureResponse r p s).far.sent = s.far.sent := by unfold captureResponse; split <;> (try split) <;> simp
@[simp] theorem captureResponse_far_lastWinner (r : Option Record) (p : ResponsePacket) : (captureResponse r p s).far.lastWinner = s.far.lastWinner := by unfold captureResponse; split <;> (try split) <;> simp
@[simp] theorem captureResponse_far_buffer (r : Option Record) (p : ResponsePacket) : (captureResponse r p s).far.buffer = s.far.buffer := by unfold captureResponse; split <;> (try split) <;> simp
@[simp] theorem captureResponse_far_granted (r : Option Record) (p : ResponsePacket) : (captureResponse r p s).far.granted = s.far.granted := by unfold captureResponse; split <;> (try split) <;> simp
@[simp] theorem captureResponse_ring_config (r : Option Record) (p : ResponsePacket) : (captureResponse r p s).ring.config = s.ring.config := by unfold captureResponse; split <;> (try split) <;> simp
@[simp] theorem captureResponse_ring_p (r : Option Record) (p : ResponsePacket) : (captureResponse r p s).ring.p = s.ring.p := by unfold captureResponse; split <;> (try split) <;> simp
@[simp] theorem captureResponse_ring_c (r : Option Record) (p : ResponsePacket) : (captureResponse r p s).ring.c = s.ring.c := by unfold captureResponse; split <;> (try split) <;> simp
@[simp] theorem captureResponse_ring_seq (r : Option Record) (p : ResponsePacket) : (captureResponse r p s).ring.seq = s.ring.seq := by unfold captureResponse; split <;> (try split) <;> simp
@[simp] theorem captureResponse_ring_overrunSeen (r : Option Record) (p : ResponsePacket) : (captureResponse r p s).ring.overrunSeen = s.ring.overrunSeen := by unfold captureResponse; split <;> (try split) <;> simp
@[simp] theorem captureResponse_ring_writer (r : Option Record) (p : ResponsePacket) : (captureResponse r p s).ring.writer = s.ring.writer := by unfold captureResponse; split <;> (try split) <;> simp

@[simp] theorem releaseRequest_pins : (releaseRequest s).pins = s.pins := by unfold releaseRequest; split <;> (try split) <;> simp
@[simp] theorem releaseRequest_linkUp : (releaseRequest s).linkUp = s.linkUp := by unfold releaseRequest; split <;> (try split) <;> simp
@[simp] theorem releaseRequest_far : (releaseRequest s).far = s.far := by unfold releaseRequest; split <;> (try split) <;> simp
@[simp] theorem releaseRequest_ctrl : (releaseRequest s).ctrl = s.ctrl := by unfold releaseRequest; split <;> (try split) <;> simp
@[simp] theorem releaseRequest_time : (releaseRequest s).time = s.time := by unfold releaseRequest; split <;> (try split) <;> simp
@[simp] theorem releaseRequest_sources : (releaseRequest s).sources = s.sources := by unfold releaseRequest; split <;> (try split) <;> simp
@[simp] theorem releaseRequest_rules : (releaseRequest s).rules = s.rules := by unfold releaseRequest; split <;> (try split) <;> simp
@[simp] theorem releaseRequest_ort : (releaseRequest s).ort = s.ort := by unfold releaseRequest; split <;> (try split) <;> simp
@[simp] theorem releaseRequest_timers : (releaseRequest s).timers = s.timers := by unfold releaseRequest; split <;> (try split) <;> simp
@[simp] theorem releaseRequest_fill : (releaseRequest s).fill = s.fill := by unfold releaseRequest; split <;> (try split) <;> simp
@[simp] theorem releaseRequest_seqr : (releaseRequest s).seqr = s.seqr := by unfold releaseRequest; split <;> (try split) <;> simp
@[simp] theorem releaseRequest_events : (releaseRequest s).events = s.events := by unfold releaseRequest; split <;> (try split) <;> simp
@[simp] theorem releaseRequest_port : (releaseRequest s).port = s.port := by unfold releaseRequest; split <;> (try split) <;> simp
@[simp] theorem releaseRequest_pending : (releaseRequest s).pending = s.pending := by unfold releaseRequest; split <;> (try split) <;> simp
@[simp] theorem releaseRequest_near_credits : (releaseRequest s).near.credits = s.near.credits := by unfold releaseRequest; split <;> (try split) <;> simp
@[simp] theorem releaseRequest_near_sent : (releaseRequest s).near.sent = s.near.sent := by unfold releaseRequest; split <;> (try split) <;> simp
@[simp] theorem releaseRequest_near_lastWinner : (releaseRequest s).near.lastWinner = s.near.lastWinner := by unfold releaseRequest; split <;> (try split) <;> simp
@[simp] theorem releaseRequest_near_refusals : (releaseRequest s).near.refusals = s.near.refusals := by unfold releaseRequest; split <;> (try split) <;> simp
@[simp] theorem releaseRequest_ring_config : (releaseRequest s).ring.config = s.ring.config := by unfold releaseRequest; split <;> (try split) <;> simp
@[simp] theorem releaseRequest_ring_p : (releaseRequest s).ring.p = s.ring.p := by unfold releaseRequest; split <;> (try split) <;> simp
@[simp] theorem releaseRequest_ring_c : (releaseRequest s).ring.c = s.ring.c := by unfold releaseRequest; split <;> (try split) <;> simp
@[simp] theorem releaseRequest_ring_seq : (releaseRequest s).ring.seq = s.ring.seq := by unfold releaseRequest; split <;> (try split) <;> simp
@[simp] theorem releaseRequest_ring_overrun : (releaseRequest s).ring.overrun = s.ring.overrun := by unfold releaseRequest; split <;> (try split) <;> simp
@[simp] theorem releaseRequest_ring_overrunSeen : (releaseRequest s).ring.overrunSeen = s.ring.overrunSeen := by unfold releaseRequest; split <;> (try split) <;> simp
@[simp] theorem releaseRequest_ring_loss : (releaseRequest s).ring.loss = s.ring.loss := by unfold releaseRequest; split <;> (try split) <;> simp
@[simp] theorem releaseRequest_ring_writer : (releaseRequest s).ring.writer = s.ring.writer := by unfold releaseRequest; split <;> (try split) <;> simp

@[simp] theorem releaseResponse_pins : (releaseResponse s).pins = s.pins := by unfold releaseResponse; split <;> (try split) <;> simp
@[simp] theorem releaseResponse_linkUp : (releaseResponse s).linkUp = s.linkUp := by unfold releaseResponse; split <;> (try split) <;> simp
@[simp] theorem releaseResponse_near : (releaseResponse s).near = s.near := by unfold releaseResponse; split <;> (try split) <;> simp
@[simp] theorem releaseResponse_ctrl : (releaseResponse s).ctrl = s.ctrl := by unfold releaseResponse; split <;> (try split) <;> simp
@[simp] theorem releaseResponse_time : (releaseResponse s).time = s.time := by unfold releaseResponse; split <;> (try split) <;> simp
@[simp] theorem releaseResponse_sources : (releaseResponse s).sources = s.sources := by unfold releaseResponse; split <;> (try split) <;> simp
@[simp] theorem releaseResponse_rules : (releaseResponse s).rules = s.rules := by unfold releaseResponse; split <;> (try split) <;> simp
@[simp] theorem releaseResponse_ort : (releaseResponse s).ort = s.ort := by unfold releaseResponse; split <;> (try split) <;> simp
@[simp] theorem releaseResponse_timers : (releaseResponse s).timers = s.timers := by unfold releaseResponse; split <;> (try split) <;> simp
@[simp] theorem releaseResponse_fill : (releaseResponse s).fill = s.fill := by unfold releaseResponse; split <;> (try split) <;> simp
@[simp] theorem releaseResponse_counters : (releaseResponse s).counters = s.counters := by unfold releaseResponse; split <;> (try split) <;> simp
@[simp] theorem releaseResponse_seqr : (releaseResponse s).seqr = s.seqr := by unfold releaseResponse; split <;> (try split) <;> simp
@[simp] theorem releaseResponse_events : (releaseResponse s).events = s.events := by unfold releaseResponse; split <;> (try split) <;> simp
@[simp] theorem releaseResponse_port : (releaseResponse s).port = s.port := by unfold releaseResponse; split <;> (try split) <;> simp
@[simp] theorem releaseResponse_pending : (releaseResponse s).pending = s.pending := by unfold releaseResponse; split <;> (try split) <;> simp
@[simp] theorem releaseResponse_far_credits : (releaseResponse s).far.credits = s.far.credits := by unfold releaseResponse; split <;> (try split) <;> simp
@[simp] theorem releaseResponse_far_sent : (releaseResponse s).far.sent = s.far.sent := by unfold releaseResponse; split <;> (try split) <;> simp
@[simp] theorem releaseResponse_far_lastWinner : (releaseResponse s).far.lastWinner = s.far.lastWinner := by unfold releaseResponse; split <;> (try split) <;> simp
@[simp] theorem releaseResponse_far_buffer : (releaseResponse s).far.buffer = s.far.buffer := by unfold releaseResponse; split <;> (try split) <;> simp
@[simp] theorem releaseResponse_far_granted : (releaseResponse s).far.granted = s.far.granted := by unfold releaseResponse; split <;> (try split) <;> simp
@[simp] theorem releaseResponse_ring_config : (releaseResponse s).ring.config = s.ring.config := by unfold releaseResponse; split <;> (try split) <;> simp
@[simp] theorem releaseResponse_ring_p : (releaseResponse s).ring.p = s.ring.p := by unfold releaseResponse; split <;> (try split) <;> simp
@[simp] theorem releaseResponse_ring_c : (releaseResponse s).ring.c = s.ring.c := by unfold releaseResponse; split <;> (try split) <;> simp
@[simp] theorem releaseResponse_ring_seq : (releaseResponse s).ring.seq = s.ring.seq := by unfold releaseResponse; split <;> (try split) <;> simp
@[simp] theorem releaseResponse_ring_overrun : (releaseResponse s).ring.overrun = s.ring.overrun := by unfold releaseResponse; split <;> (try split) <;> simp
@[simp] theorem releaseResponse_ring_overrunSeen : (releaseResponse s).ring.overrunSeen = s.ring.overrunSeen := by unfold releaseResponse; split <;> (try split) <;> simp
@[simp] theorem releaseResponse_ring_loss : (releaseResponse s).ring.loss = s.ring.loss := by unfold releaseResponse; split <;> (try split) <;> simp
@[simp] theorem releaseResponse_ring_writer : (releaseResponse s).ring.writer = s.ring.writer := by unfold releaseResponse; split <;> (try split) <;> simp

@[simp] theorem offerFreedSlots_pins : (offerFreedSlots s).pins = s.pins := by unfold offerFreedSlots; split <;> simp
@[simp] theorem offerFreedSlots_linkUp : (offerFreedSlots s).linkUp = s.linkUp := by unfold offerFreedSlots; split <;> simp
@[simp] theorem offerFreedSlots_ctrl : (offerFreedSlots s).ctrl = s.ctrl := by unfold offerFreedSlots; split <;> simp
@[simp] theorem offerFreedSlots_time : (offerFreedSlots s).time = s.time := by unfold offerFreedSlots; split <;> simp
@[simp] theorem offerFreedSlots_sources : (offerFreedSlots s).sources = s.sources := by unfold offerFreedSlots; split <;> simp
@[simp] theorem offerFreedSlots_rules : (offerFreedSlots s).rules = s.rules := by unfold offerFreedSlots; split <;> simp
@[simp] theorem offerFreedSlots_ort : (offerFreedSlots s).ort = s.ort := by unfold offerFreedSlots; split <;> simp
@[simp] theorem offerFreedSlots_timers : (offerFreedSlots s).timers = s.timers := by unfold offerFreedSlots; split <;> simp
@[simp] theorem offerFreedSlots_fill : (offerFreedSlots s).fill = s.fill := by unfold offerFreedSlots; split <;> simp
@[simp] theorem offerFreedSlots_seqr : (offerFreedSlots s).seqr = s.seqr := by unfold offerFreedSlots; split <;> simp
@[simp] theorem offerFreedSlots_events : (offerFreedSlots s).events = s.events := by unfold offerFreedSlots; split <;> simp
@[simp] theorem offerFreedSlots_port : (offerFreedSlots s).port = s.port := by unfold offerFreedSlots; split <;> simp
@[simp] theorem offerFreedSlots_pending : (offerFreedSlots s).pending = s.pending := by unfold offerFreedSlots; split <;> simp
@[simp] theorem offerFreedSlots_near_credits : (offerFreedSlots s).near.credits = s.near.credits := by unfold offerFreedSlots; split <;> simp
@[simp] theorem offerFreedSlots_near_sent : (offerFreedSlots s).near.sent = s.near.sent := by unfold offerFreedSlots; split <;> simp
@[simp] theorem offerFreedSlots_near_lastWinner : (offerFreedSlots s).near.lastWinner = s.near.lastWinner := by unfold offerFreedSlots; split <;> simp
@[simp] theorem offerFreedSlots_near_refusals : (offerFreedSlots s).near.refusals = s.near.refusals := by unfold offerFreedSlots; split <;> simp
@[simp] theorem offerFreedSlots_far_credits : (offerFreedSlots s).far.credits = s.far.credits := by unfold offerFreedSlots; split <;> simp
@[simp] theorem offerFreedSlots_far_sent : (offerFreedSlots s).far.sent = s.far.sent := by unfold offerFreedSlots; split <;> simp
@[simp] theorem offerFreedSlots_far_lastWinner : (offerFreedSlots s).far.lastWinner = s.far.lastWinner := by unfold offerFreedSlots; split <;> simp
@[simp] theorem offerFreedSlots_far_buffer : (offerFreedSlots s).far.buffer = s.far.buffer := by unfold offerFreedSlots; split <;> simp
@[simp] theorem offerFreedSlots_far_granted : (offerFreedSlots s).far.granted = s.far.granted := by unfold offerFreedSlots; split <;> simp
@[simp] theorem offerFreedSlots_ring_config : (offerFreedSlots s).ring.config = s.ring.config := by unfold offerFreedSlots; split <;> simp
@[simp] theorem offerFreedSlots_ring_p : (offerFreedSlots s).ring.p = s.ring.p := by unfold offerFreedSlots; split <;> simp
@[simp] theorem offerFreedSlots_ring_c : (offerFreedSlots s).ring.c = s.ring.c := by unfold offerFreedSlots; split <;> simp
@[simp] theorem offerFreedSlots_ring_seq : (offerFreedSlots s).ring.seq = s.ring.seq := by unfold offerFreedSlots; split <;> simp
@[simp] theorem offerFreedSlots_ring_overrun : (offerFreedSlots s).ring.overrun = s.ring.overrun := by unfold offerFreedSlots; split <;> simp
@[simp] theorem offerFreedSlots_ring_overrunSeen : (offerFreedSlots s).ring.overrunSeen = s.ring.overrunSeen := by unfold offerFreedSlots; split <;> simp
@[simp] theorem offerFreedSlots_ring_loss : (offerFreedSlots s).ring.loss = s.ring.loss := by unfold offerFreedSlots; split <;> simp
@[simp] theorem offerFreedSlots_ring_writer : (offerFreedSlots s).ring.writer = s.ring.writer := by unfold offerFreedSlots; split <;> simp

@[simp] theorem acceptUpdate_pins (c' : BitVec 16) : (acceptUpdate c' s).pins = s.pins := by unfold acceptUpdate; simp
@[simp] theorem acceptUpdate_linkUp (c' : BitVec 16) : (acceptUpdate c' s).linkUp = s.linkUp := by unfold acceptUpdate; simp
@[simp] theorem acceptUpdate_ctrl (c' : BitVec 16) : (acceptUpdate c' s).ctrl = s.ctrl := by unfold acceptUpdate; simp
@[simp] theorem acceptUpdate_time (c' : BitVec 16) : (acceptUpdate c' s).time = s.time := by unfold acceptUpdate; simp
@[simp] theorem acceptUpdate_sources (c' : BitVec 16) : (acceptUpdate c' s).sources = s.sources := by unfold acceptUpdate; simp
@[simp] theorem acceptUpdate_rules (c' : BitVec 16) : (acceptUpdate c' s).rules = s.rules := by unfold acceptUpdate; simp
@[simp] theorem acceptUpdate_ort (c' : BitVec 16) : (acceptUpdate c' s).ort = s.ort := by unfold acceptUpdate; simp
@[simp] theorem acceptUpdate_timers (c' : BitVec 16) : (acceptUpdate c' s).timers = s.timers := by unfold acceptUpdate; simp
@[simp] theorem acceptUpdate_fill (c' : BitVec 16) : (acceptUpdate c' s).fill = s.fill := by unfold acceptUpdate; simp
@[simp] theorem acceptUpdate_seqr (c' : BitVec 16) : (acceptUpdate c' s).seqr = s.seqr := by unfold acceptUpdate; simp
@[simp] theorem acceptUpdate_events (c' : BitVec 16) : (acceptUpdate c' s).events = s.events := by unfold acceptUpdate; simp
@[simp] theorem acceptUpdate_port (c' : BitVec 16) : (acceptUpdate c' s).port = s.port := by unfold acceptUpdate; simp
@[simp] theorem acceptUpdate_pending (c' : BitVec 16) : (acceptUpdate c' s).pending = s.pending := by unfold acceptUpdate; simp
@[simp] theorem acceptUpdate_near_credits (c' : BitVec 16) : (acceptUpdate c' s).near.credits = s.near.credits := by unfold acceptUpdate; simp
@[simp] theorem acceptUpdate_near_sent (c' : BitVec 16) : (acceptUpdate c' s).near.sent = s.near.sent := by unfold acceptUpdate; simp
@[simp] theorem acceptUpdate_near_lastWinner (c' : BitVec 16) : (acceptUpdate c' s).near.lastWinner = s.near.lastWinner := by unfold acceptUpdate; simp
@[simp] theorem acceptUpdate_near_refusals (c' : BitVec 16) : (acceptUpdate c' s).near.refusals = s.near.refusals := by unfold acceptUpdate; simp
@[simp] theorem acceptUpdate_far_credits (c' : BitVec 16) : (acceptUpdate c' s).far.credits = s.far.credits := by unfold acceptUpdate; simp
@[simp] theorem acceptUpdate_far_sent (c' : BitVec 16) : (acceptUpdate c' s).far.sent = s.far.sent := by unfold acceptUpdate; simp
@[simp] theorem acceptUpdate_far_lastWinner (c' : BitVec 16) : (acceptUpdate c' s).far.lastWinner = s.far.lastWinner := by unfold acceptUpdate; simp
@[simp] theorem acceptUpdate_far_buffer (c' : BitVec 16) : (acceptUpdate c' s).far.buffer = s.far.buffer := by unfold acceptUpdate; simp
@[simp] theorem acceptUpdate_far_granted (c' : BitVec 16) : (acceptUpdate c' s).far.granted = s.far.granted := by unfold acceptUpdate; simp
@[simp] theorem acceptUpdate_ring_config (c' : BitVec 16) : (acceptUpdate c' s).ring.config = s.ring.config := by unfold acceptUpdate; simp
@[simp] theorem acceptUpdate_ring_p (c' : BitVec 16) : (acceptUpdate c' s).ring.p = s.ring.p := by unfold acceptUpdate; simp
@[simp] theorem acceptUpdate_ring_c (c' : BitVec 16) : (acceptUpdate c' s).ring.c = c' := by unfold acceptUpdate; simp
@[simp] theorem acceptUpdate_ring_seq (c' : BitVec 16) : (acceptUpdate c' s).ring.seq = s.ring.seq := by unfold acceptUpdate; simp
@[simp] theorem acceptUpdate_ring_loss (c' : BitVec 16) : (acceptUpdate c' s).ring.loss = s.ring.loss := by unfold acceptUpdate; simp
@[simp] theorem acceptUpdate_ring_writer (c' : BitVec 16) : (acceptUpdate c' s).ring.writer = s.ring.writer := by unfold acceptUpdate; simp

@[simp] theorem rejectUpdate_pins : (rejectUpdate s).pins = s.pins := by unfold rejectUpdate; dsimp only; split <;> rfl
@[simp] theorem rejectUpdate_linkUp : (rejectUpdate s).linkUp = s.linkUp := by unfold rejectUpdate; dsimp only; split <;> rfl
@[simp] theorem rejectUpdate_near : (rejectUpdate s).near = s.near := by unfold rejectUpdate; dsimp only; split <;> rfl
@[simp] theorem rejectUpdate_far : (rejectUpdate s).far = s.far := by unfold rejectUpdate; dsimp only; split <;> rfl
@[simp] theorem rejectUpdate_ctrl : (rejectUpdate s).ctrl = s.ctrl := by unfold rejectUpdate; dsimp only; split <;> rfl
@[simp] theorem rejectUpdate_time : (rejectUpdate s).time = s.time := by unfold rejectUpdate; dsimp only; split <;> rfl
@[simp] theorem rejectUpdate_sources : (rejectUpdate s).sources = s.sources := by unfold rejectUpdate; dsimp only; split <;> rfl
@[simp] theorem rejectUpdate_rules : (rejectUpdate s).rules = s.rules := by unfold rejectUpdate; dsimp only; split <;> rfl
@[simp] theorem rejectUpdate_ort : (rejectUpdate s).ort = s.ort := by unfold rejectUpdate; dsimp only; split <;> rfl
@[simp] theorem rejectUpdate_timers : (rejectUpdate s).timers = s.timers := by unfold rejectUpdate; dsimp only; split <;> rfl
@[simp] theorem rejectUpdate_fill : (rejectUpdate s).fill = s.fill := by unfold rejectUpdate; dsimp only; split <;> rfl
@[simp] theorem rejectUpdate_ring : (rejectUpdate s).ring = s.ring := by unfold rejectUpdate; dsimp only; split <;> rfl
@[simp] theorem rejectUpdate_seqr : (rejectUpdate s).seqr = s.seqr := by unfold rejectUpdate; dsimp only; split <;> rfl
@[simp] theorem rejectUpdate_port : (rejectUpdate s).port = s.port := by unfold rejectUpdate; dsimp only; split <;> rfl
@[simp] theorem rejectUpdate_pending : (rejectUpdate s).pending = s.pending := by unfold rejectUpdate; dsimp only; split <;> rfl

@[simp] theorem snoop_pins (p : RequestPacket) : (snoop p s).pins = s.pins := by unfold snoop; split <;> (try split) <;> (try split) <;> simp
@[simp] theorem snoop_linkUp (p : RequestPacket) : (snoop p s).linkUp = s.linkUp := by unfold snoop; split <;> (try split) <;> (try split) <;> simp
@[simp] theorem snoop_ctrl (p : RequestPacket) : (snoop p s).ctrl = s.ctrl := by unfold snoop; split <;> (try split) <;> (try split) <;> simp
@[simp] theorem snoop_time (p : RequestPacket) : (snoop p s).time = s.time := by unfold snoop; split <;> (try split) <;> (try split) <;> simp
@[simp] theorem snoop_sources (p : RequestPacket) : (snoop p s).sources = s.sources := by unfold snoop; split <;> (try split) <;> (try split) <;> simp
@[simp] theorem snoop_rules (p : RequestPacket) : (snoop p s).rules = s.rules := by unfold snoop; split <;> (try split) <;> (try split) <;> simp
@[simp] theorem snoop_ort (p : RequestPacket) : (snoop p s).ort = s.ort := by unfold snoop; split <;> (try split) <;> (try split) <;> simp
@[simp] theorem snoop_timers (p : RequestPacket) : (snoop p s).timers = s.timers := by unfold snoop; split <;> (try split) <;> (try split) <;> simp
@[simp] theorem snoop_fill (p : RequestPacket) : (snoop p s).fill = s.fill := by unfold snoop; split <;> (try split) <;> (try split) <;> simp
@[simp] theorem snoop_seqr (p : RequestPacket) : (snoop p s).seqr = s.seqr := by unfold snoop; split <;> (try split) <;> (try split) <;> simp
@[simp] theorem snoop_port (p : RequestPacket) : (snoop p s).port = s.port := by unfold snoop; split <;> (try split) <;> (try split) <;> simp
@[simp] theorem snoop_pending (p : RequestPacket) : (snoop p s).pending = s.pending := by unfold snoop; split <;> (try split) <;> (try split) <;> simp
@[simp] theorem snoop_near_credits (p : RequestPacket) : (snoop p s).near.credits = s.near.credits := by unfold snoop; split <;> (try split) <;> (try split) <;> simp
@[simp] theorem snoop_near_sent (p : RequestPacket) : (snoop p s).near.sent = s.near.sent := by unfold snoop; split <;> (try split) <;> (try split) <;> simp
@[simp] theorem snoop_near_lastWinner (p : RequestPacket) : (snoop p s).near.lastWinner = s.near.lastWinner := by unfold snoop; split <;> (try split) <;> (try split) <;> simp
@[simp] theorem snoop_near_refusals (p : RequestPacket) : (snoop p s).near.refusals = s.near.refusals := by unfold snoop; split <;> (try split) <;> (try split) <;> simp
@[simp] theorem snoop_far_credits (p : RequestPacket) : (snoop p s).far.credits = s.far.credits := by unfold snoop; split <;> (try split) <;> (try split) <;> simp
@[simp] theorem snoop_far_sent (p : RequestPacket) : (snoop p s).far.sent = s.far.sent := by unfold snoop; split <;> (try split) <;> (try split) <;> simp
@[simp] theorem snoop_far_lastWinner (p : RequestPacket) : (snoop p s).far.lastWinner = s.far.lastWinner := by unfold snoop; split <;> (try split) <;> (try split) <;> simp
@[simp] theorem snoop_far_buffer (p : RequestPacket) : (snoop p s).far.buffer = s.far.buffer := by unfold snoop; split <;> (try split) <;> (try split) <;> simp
@[simp] theorem snoop_far_granted (p : RequestPacket) : (snoop p s).far.granted = s.far.granted := by unfold snoop; split <;> (try split) <;> (try split) <;> simp
@[simp] theorem snoop_ring_config (p : RequestPacket) : (snoop p s).ring.config = s.ring.config := by unfold snoop; split <;> (try split) <;> (try split) <;> simp
@[simp] theorem snoop_ring_p (p : RequestPacket) : (snoop p s).ring.p = s.ring.p := by unfold snoop; split <;> (try split) <;> (try split) <;> simp
@[simp] theorem snoop_ring_seq (p : RequestPacket) : (snoop p s).ring.seq = s.ring.seq := by unfold snoop; split <;> (try split) <;> (try split) <;> simp
@[simp] theorem snoop_ring_loss (p : RequestPacket) : (snoop p s).ring.loss = s.ring.loss := by unfold snoop; split <;> (try split) <;> (try split) <;> simp
@[simp] theorem snoop_ring_writer (p : RequestPacket) : (snoop p s).ring.writer = s.ring.writer := by unfold snoop; split <;> (try split) <;> (try split) <;> simp

@[simp] theorem abandonHeldRequest_pins : (abandonHeldRequest s).pins = s.pins := by unfold abandonHeldRequest; split <;> simp
@[simp] theorem abandonHeldRequest_linkUp : (abandonHeldRequest s).linkUp = s.linkUp := by unfold abandonHeldRequest; split <;> simp
@[simp] theorem abandonHeldRequest_far : (abandonHeldRequest s).far = s.far := by unfold abandonHeldRequest; split <;> simp
@[simp] theorem abandonHeldRequest_ctrl : (abandonHeldRequest s).ctrl = s.ctrl := by unfold abandonHeldRequest; split <;> simp
@[simp] theorem abandonHeldRequest_time : (abandonHeldRequest s).time = s.time := by unfold abandonHeldRequest; split <;> simp
@[simp] theorem abandonHeldRequest_sources : (abandonHeldRequest s).sources = s.sources := by unfold abandonHeldRequest; split <;> simp
@[simp] theorem abandonHeldRequest_rules : (abandonHeldRequest s).rules = s.rules := by unfold abandonHeldRequest; split <;> simp
@[simp] theorem abandonHeldRequest_ort : (abandonHeldRequest s).ort = s.ort := by unfold abandonHeldRequest; split <;> simp
@[simp] theorem abandonHeldRequest_timers : (abandonHeldRequest s).timers = s.timers := by unfold abandonHeldRequest; split <;> simp
@[simp] theorem abandonHeldRequest_fill : (abandonHeldRequest s).fill = s.fill := by unfold abandonHeldRequest; split <;> simp
@[simp] theorem abandonHeldRequest_seqr : (abandonHeldRequest s).seqr = s.seqr := by unfold abandonHeldRequest; split <;> simp
@[simp] theorem abandonHeldRequest_port : (abandonHeldRequest s).port = s.port := by unfold abandonHeldRequest; split <;> simp
@[simp] theorem abandonHeldRequest_pending : (abandonHeldRequest s).pending = s.pending := by unfold abandonHeldRequest; split <;> simp
@[simp] theorem abandonHeldRequest_near_credits : (abandonHeldRequest s).near.credits = s.near.credits := by unfold abandonHeldRequest; split <;> simp
@[simp] theorem abandonHeldRequest_near_sent : (abandonHeldRequest s).near.sent = s.near.sent := by unfold abandonHeldRequest; split <;> simp
@[simp] theorem abandonHeldRequest_near_lastWinner : (abandonHeldRequest s).near.lastWinner = s.near.lastWinner := by unfold abandonHeldRequest; split <;> simp
@[simp] theorem abandonHeldRequest_near_refusals : (abandonHeldRequest s).near.refusals = s.near.refusals := by unfold abandonHeldRequest; split <;> simp
@[simp] theorem abandonHeldRequest_ring_config : (abandonHeldRequest s).ring.config = s.ring.config := by unfold abandonHeldRequest; split <;> simp
@[simp] theorem abandonHeldRequest_ring_p : (abandonHeldRequest s).ring.p = s.ring.p := by unfold abandonHeldRequest; split <;> simp
@[simp] theorem abandonHeldRequest_ring_c : (abandonHeldRequest s).ring.c = s.ring.c := by unfold abandonHeldRequest; split <;> simp
@[simp] theorem abandonHeldRequest_ring_seq : (abandonHeldRequest s).ring.seq = s.ring.seq := by unfold abandonHeldRequest; split <;> simp
@[simp] theorem abandonHeldRequest_ring_overrun : (abandonHeldRequest s).ring.overrun = s.ring.overrun := by unfold abandonHeldRequest; split <;> simp
@[simp] theorem abandonHeldRequest_ring_overrunSeen : (abandonHeldRequest s).ring.overrunSeen = s.ring.overrunSeen := by unfold abandonHeldRequest; split <;> simp
@[simp] theorem abandonHeldRequest_ring_queue : (abandonHeldRequest s).ring.queue = s.ring.queue := by unfold abandonHeldRequest; split <;> simp
@[simp] theorem abandonHeldRequest_ring_writer : (abandonHeldRequest s).ring.writer = s.ring.writer := by unfold abandonHeldRequest; split <;> simp

@[simp] theorem abandonHeldResponse_pins : (abandonHeldResponse s).pins = s.pins := by unfold abandonHeldResponse; split <;> simp
@[simp] theorem abandonHeldResponse_linkUp : (abandonHeldResponse s).linkUp = s.linkUp := by unfold abandonHeldResponse; split <;> simp
@[simp] theorem abandonHeldResponse_near : (abandonHeldResponse s).near = s.near := by unfold abandonHeldResponse; split <;> simp
@[simp] theorem abandonHeldResponse_ctrl : (abandonHeldResponse s).ctrl = s.ctrl := by unfold abandonHeldResponse; split <;> simp
@[simp] theorem abandonHeldResponse_time : (abandonHeldResponse s).time = s.time := by unfold abandonHeldResponse; split <;> simp
@[simp] theorem abandonHeldResponse_sources : (abandonHeldResponse s).sources = s.sources := by unfold abandonHeldResponse; split <;> simp
@[simp] theorem abandonHeldResponse_rules : (abandonHeldResponse s).rules = s.rules := by unfold abandonHeldResponse; split <;> simp
@[simp] theorem abandonHeldResponse_ort : (abandonHeldResponse s).ort = s.ort := by unfold abandonHeldResponse; split <;> simp
@[simp] theorem abandonHeldResponse_timers : (abandonHeldResponse s).timers = s.timers := by unfold abandonHeldResponse; split <;> simp
@[simp] theorem abandonHeldResponse_fill : (abandonHeldResponse s).fill = s.fill := by unfold abandonHeldResponse; split <;> simp
@[simp] theorem abandonHeldResponse_counters : (abandonHeldResponse s).counters = s.counters := by unfold abandonHeldResponse; split <;> simp
@[simp] theorem abandonHeldResponse_seqr : (abandonHeldResponse s).seqr = s.seqr := by unfold abandonHeldResponse; split <;> simp
@[simp] theorem abandonHeldResponse_port : (abandonHeldResponse s).port = s.port := by unfold abandonHeldResponse; split <;> simp
@[simp] theorem abandonHeldResponse_pending : (abandonHeldResponse s).pending = s.pending := by unfold abandonHeldResponse; split <;> simp
@[simp] theorem abandonHeldResponse_far_credits : (abandonHeldResponse s).far.credits = s.far.credits := by unfold abandonHeldResponse; split <;> simp
@[simp] theorem abandonHeldResponse_far_sent : (abandonHeldResponse s).far.sent = s.far.sent := by unfold abandonHeldResponse; split <;> simp
@[simp] theorem abandonHeldResponse_far_lastWinner : (abandonHeldResponse s).far.lastWinner = s.far.lastWinner := by unfold abandonHeldResponse; split <;> simp
@[simp] theorem abandonHeldResponse_far_buffer : (abandonHeldResponse s).far.buffer = s.far.buffer := by unfold abandonHeldResponse; split <;> simp
@[simp] theorem abandonHeldResponse_far_granted : (abandonHeldResponse s).far.granted = s.far.granted := by unfold abandonHeldResponse; split <;> simp
@[simp] theorem abandonHeldResponse_ring_config : (abandonHeldResponse s).ring.config = s.ring.config := by unfold abandonHeldResponse; split <;> simp
@[simp] theorem abandonHeldResponse_ring_p : (abandonHeldResponse s).ring.p = s.ring.p := by unfold abandonHeldResponse; split <;> simp
@[simp] theorem abandonHeldResponse_ring_c : (abandonHeldResponse s).ring.c = s.ring.c := by unfold abandonHeldResponse; split <;> simp
@[simp] theorem abandonHeldResponse_ring_seq : (abandonHeldResponse s).ring.seq = s.ring.seq := by unfold abandonHeldResponse; split <;> simp
@[simp] theorem abandonHeldResponse_ring_overrun : (abandonHeldResponse s).ring.overrun = s.ring.overrun := by unfold abandonHeldResponse; split <;> simp
@[simp] theorem abandonHeldResponse_ring_overrunSeen : (abandonHeldResponse s).ring.overrunSeen = s.ring.overrunSeen := by unfold abandonHeldResponse; split <;> simp
@[simp] theorem abandonHeldResponse_ring_queue : (abandonHeldResponse s).ring.queue = s.ring.queue := by unfold abandonHeldResponse; split <;> simp
@[simp] theorem abandonHeldResponse_ring_writer : (abandonHeldResponse s).ring.writer = s.ring.writer := by unfold abandonHeldResponse; split <;> simp

@[simp] theorem abandonHeld_pins : (abandonHeld s).pins = s.pins := by unfold abandonHeld; simp
@[simp] theorem abandonHeld_linkUp : (abandonHeld s).linkUp = s.linkUp := by unfold abandonHeld; simp
@[simp] theorem abandonHeld_ctrl : (abandonHeld s).ctrl = s.ctrl := by unfold abandonHeld; simp
@[simp] theorem abandonHeld_time : (abandonHeld s).time = s.time := by unfold abandonHeld; simp
@[simp] theorem abandonHeld_sources : (abandonHeld s).sources = s.sources := by unfold abandonHeld; simp
@[simp] theorem abandonHeld_rules : (abandonHeld s).rules = s.rules := by unfold abandonHeld; simp
@[simp] theorem abandonHeld_ort : (abandonHeld s).ort = s.ort := by unfold abandonHeld; simp
@[simp] theorem abandonHeld_timers : (abandonHeld s).timers = s.timers := by unfold abandonHeld; simp
@[simp] theorem abandonHeld_fill : (abandonHeld s).fill = s.fill := by unfold abandonHeld; simp
@[simp] theorem abandonHeld_seqr : (abandonHeld s).seqr = s.seqr := by unfold abandonHeld; simp
@[simp] theorem abandonHeld_port : (abandonHeld s).port = s.port := by unfold abandonHeld; simp
@[simp] theorem abandonHeld_pending : (abandonHeld s).pending = s.pending := by unfold abandonHeld; simp
@[simp] theorem abandonHeld_near_credits : (abandonHeld s).near.credits = s.near.credits := by unfold abandonHeld; simp
@[simp] theorem abandonHeld_near_sent : (abandonHeld s).near.sent = s.near.sent := by unfold abandonHeld; simp
@[simp] theorem abandonHeld_near_lastWinner : (abandonHeld s).near.lastWinner = s.near.lastWinner := by unfold abandonHeld; simp
@[simp] theorem abandonHeld_near_refusals : (abandonHeld s).near.refusals = s.near.refusals := by unfold abandonHeld; simp
@[simp] theorem abandonHeld_far_credits : (abandonHeld s).far.credits = s.far.credits := by unfold abandonHeld; simp
@[simp] theorem abandonHeld_far_sent : (abandonHeld s).far.sent = s.far.sent := by unfold abandonHeld; simp
@[simp] theorem abandonHeld_far_lastWinner : (abandonHeld s).far.lastWinner = s.far.lastWinner := by unfold abandonHeld; simp
@[simp] theorem abandonHeld_far_buffer : (abandonHeld s).far.buffer = s.far.buffer := by unfold abandonHeld; simp
@[simp] theorem abandonHeld_far_granted : (abandonHeld s).far.granted = s.far.granted := by unfold abandonHeld; simp
@[simp] theorem abandonHeld_ring_config : (abandonHeld s).ring.config = s.ring.config := by unfold abandonHeld; simp
@[simp] theorem abandonHeld_ring_p : (abandonHeld s).ring.p = s.ring.p := by unfold abandonHeld; simp
@[simp] theorem abandonHeld_ring_c : (abandonHeld s).ring.c = s.ring.c := by unfold abandonHeld; simp
@[simp] theorem abandonHeld_ring_seq : (abandonHeld s).ring.seq = s.ring.seq := by unfold abandonHeld; simp
@[simp] theorem abandonHeld_ring_overrun : (abandonHeld s).ring.overrun = s.ring.overrun := by unfold abandonHeld; simp
@[simp] theorem abandonHeld_ring_overrunSeen : (abandonHeld s).ring.overrunSeen = s.ring.overrunSeen := by unfold abandonHeld; simp
@[simp] theorem abandonHeld_ring_queue : (abandonHeld s).ring.queue = s.ring.queue := by unfold abandonHeld; simp
@[simp] theorem abandonHeld_ring_writer : (abandonHeld s).ring.writer = s.ring.writer := by unfold abandonHeld; simp

@[simp] theorem enterFrozen_pins : (enterFrozen s).pins = s.pins := by unfold enterFrozen; simp
@[simp] theorem enterFrozen_linkUp : (enterFrozen s).linkUp = s.linkUp := by unfold enterFrozen; simp
@[simp] theorem enterFrozen_time : (enterFrozen s).time = s.time := by unfold enterFrozen; simp
@[simp] theorem enterFrozen_sources : (enterFrozen s).sources = s.sources := by unfold enterFrozen; simp
@[simp] theorem enterFrozen_rules : (enterFrozen s).rules = s.rules := by unfold enterFrozen; simp
@[simp] theorem enterFrozen_ort : (enterFrozen s).ort = s.ort := by unfold enterFrozen; simp
@[simp] theorem enterFrozen_timers : (enterFrozen s).timers = s.timers := by unfold enterFrozen; simp
@[simp] theorem enterFrozen_fill : (enterFrozen s).fill = s.fill := by unfold enterFrozen; simp
@[simp] theorem enterFrozen_seqr : (enterFrozen s).seqr = s.seqr := by unfold enterFrozen; simp
@[simp] theorem enterFrozen_port : (enterFrozen s).port = s.port := by unfold enterFrozen; simp
@[simp] theorem enterFrozen_pending : (enterFrozen s).pending = s.pending := by unfold enterFrozen; simp
@[simp] theorem enterFrozen_ctrl_mode : (enterFrozen s).ctrl.mode = .frozen := by unfold enterFrozen; simp
@[simp] theorem enterFrozen_ctrl_guardLock : (enterFrozen s).ctrl.guardLock = s.ctrl.guardLock := by unfold enterFrozen; simp
@[simp] theorem enterFrozen_ctrl_freezeRequests : (enterFrozen s).ctrl.freezeRequests = s.ctrl.freezeRequests := by unfold enterFrozen; simp
@[simp] theorem enterFrozen_near_credits : (enterFrozen s).near.credits = s.near.credits := by unfold enterFrozen; simp
@[simp] theorem enterFrozen_near_sent : (enterFrozen s).near.sent = s.near.sent := by unfold enterFrozen; simp
@[simp] theorem enterFrozen_near_lastWinner : (enterFrozen s).near.lastWinner = s.near.lastWinner := by unfold enterFrozen; simp
@[simp] theorem enterFrozen_near_refusals : (enterFrozen s).near.refusals = s.near.refusals := by unfold enterFrozen; simp
@[simp] theorem enterFrozen_far_credits : (enterFrozen s).far.credits = s.far.credits := by unfold enterFrozen; simp
@[simp] theorem enterFrozen_far_sent : (enterFrozen s).far.sent = s.far.sent := by unfold enterFrozen; simp
@[simp] theorem enterFrozen_far_lastWinner : (enterFrozen s).far.lastWinner = s.far.lastWinner := by unfold enterFrozen; simp
@[simp] theorem enterFrozen_far_buffer : (enterFrozen s).far.buffer = s.far.buffer := by unfold enterFrozen; simp
@[simp] theorem enterFrozen_far_granted : (enterFrozen s).far.granted = s.far.granted := by unfold enterFrozen; simp
@[simp] theorem enterFrozen_ring_config : (enterFrozen s).ring.config = s.ring.config := by unfold enterFrozen; simp
@[simp] theorem enterFrozen_ring_p : (enterFrozen s).ring.p = s.ring.p := by unfold enterFrozen; simp
@[simp] theorem enterFrozen_ring_c : (enterFrozen s).ring.c = s.ring.c := by unfold enterFrozen; simp
@[simp] theorem enterFrozen_ring_seq : (enterFrozen s).ring.seq = s.ring.seq := by unfold enterFrozen; simp
@[simp] theorem enterFrozen_ring_overrun : (enterFrozen s).ring.overrun = s.ring.overrun := by unfold enterFrozen; simp
@[simp] theorem enterFrozen_ring_overrunSeen : (enterFrozen s).ring.overrunSeen = s.ring.overrunSeen := by unfold enterFrozen; simp
@[simp] theorem enterFrozen_ring_queue : (enterFrozen s).ring.queue = s.ring.queue := by unfold enterFrozen; simp
@[simp] theorem enterFrozen_ring_writer : (enterFrozen s).ring.writer = s.ring.writer := by unfold enterFrozen; simp

@[simp] theorem enterBypass_pins : (enterBypass s).pins = s.pins := by unfold enterBypass; simp
@[simp] theorem enterBypass_linkUp : (enterBypass s).linkUp = s.linkUp := by unfold enterBypass; simp
@[simp] theorem enterBypass_time : (enterBypass s).time = s.time := by unfold enterBypass; simp
@[simp] theorem enterBypass_sources : (enterBypass s).sources = s.sources := by unfold enterBypass; simp
@[simp] theorem enterBypass_timers : (enterBypass s).timers = s.timers := by unfold enterBypass; simp
@[simp] theorem enterBypass_fill : (enterBypass s).fill = s.fill := by unfold enterBypass; simp
@[simp] theorem enterBypass_seqr : (enterBypass s).seqr = s.seqr := by unfold enterBypass; simp
@[simp] theorem enterBypass_port : (enterBypass s).port = s.port := by unfold enterBypass; simp
@[simp] theorem enterBypass_pending : (enterBypass s).pending = s.pending := by unfold enterBypass; simp
@[simp] theorem enterBypass_ctrl_mode : (enterBypass s).ctrl.mode = .bypass := by unfold enterBypass; simp
@[simp] theorem enterBypass_ctrl_guardLock : (enterBypass s).ctrl.guardLock = s.ctrl.guardLock := by unfold enterBypass; simp
@[simp] theorem enterBypass_ctrl_freezeRequests : (enterBypass s).ctrl.freezeRequests = s.ctrl.freezeRequests := by unfold enterBypass; simp
@[simp] theorem enterBypass_ort : (enterBypass s).ort = s.ort.map orphan := by unfold enterBypass; simp
@[simp] theorem enterBypass_near_credits : (enterBypass s).near.credits = s.near.credits := by unfold enterBypass; simp
@[simp] theorem enterBypass_near_sent : (enterBypass s).near.sent = s.near.sent := by unfold enterBypass; simp
@[simp] theorem enterBypass_near_lastWinner : (enterBypass s).near.lastWinner = s.near.lastWinner := by unfold enterBypass; simp
@[simp] theorem enterBypass_near_refusals : (enterBypass s).near.refusals = s.near.refusals := by unfold enterBypass; simp
@[simp] theorem enterBypass_far_credits : (enterBypass s).far.credits = s.far.credits := by unfold enterBypass; simp
@[simp] theorem enterBypass_far_sent : (enterBypass s).far.sent = s.far.sent := by unfold enterBypass; simp
@[simp] theorem enterBypass_far_lastWinner : (enterBypass s).far.lastWinner = s.far.lastWinner := by unfold enterBypass; simp
@[simp] theorem enterBypass_far_buffer : (enterBypass s).far.buffer = s.far.buffer := by unfold enterBypass; simp
@[simp] theorem enterBypass_far_granted : (enterBypass s).far.granted = s.far.granted := by unfold enterBypass; simp
@[simp] theorem enterBypass_ring_config : (enterBypass s).ring.config = s.ring.config := by unfold enterBypass; simp
@[simp] theorem enterBypass_ring_p : (enterBypass s).ring.p = s.ring.p := by unfold enterBypass; simp
@[simp] theorem enterBypass_ring_c : (enterBypass s).ring.c = s.ring.c := by unfold enterBypass; simp
@[simp] theorem enterBypass_ring_seq : (enterBypass s).ring.seq = s.ring.seq := by unfold enterBypass; simp
@[simp] theorem enterBypass_ring_overrun : (enterBypass s).ring.overrun = s.ring.overrun := by unfold enterBypass; simp
@[simp] theorem enterBypass_ring_overrunSeen : (enterBypass s).ring.overrunSeen = s.ring.overrunSeen := by unfold enterBypass; simp
@[simp] theorem enterBypass_ring_queue : (enterBypass s).ring.queue = s.ring.queue := by unfold enterBypass; simp
@[simp] theorem enterBypass_ring_writer : (enterBypass s).ring.writer = s.ring.writer := by unfold enterBypass; simp

@[simp] theorem enterMode_pins (m : Mode) : (enterMode m s).pins = s.pins := by cases m <;> simp [enterMode, enterActive]
@[simp] theorem enterMode_linkUp (m : Mode) : (enterMode m s).linkUp = s.linkUp := by cases m <;> simp [enterMode, enterActive]
@[simp] theorem enterMode_time (m : Mode) : (enterMode m s).time = s.time := by cases m <;> simp [enterMode, enterActive]
@[simp] theorem enterMode_sources (m : Mode) : (enterMode m s).sources = s.sources := by cases m <;> simp [enterMode, enterActive]
@[simp] theorem enterMode_timers (m : Mode) : (enterMode m s).timers = s.timers := by cases m <;> simp [enterMode, enterActive]
@[simp] theorem enterMode_fill (m : Mode) : (enterMode m s).fill = s.fill := by cases m <;> simp [enterMode, enterActive]
@[simp] theorem enterMode_seqr (m : Mode) : (enterMode m s).seqr = s.seqr := by cases m <;> simp [enterMode, enterActive]
@[simp] theorem enterMode_port (m : Mode) : (enterMode m s).port = s.port := by cases m <;> simp [enterMode, enterActive]
@[simp] theorem enterMode_pending (m : Mode) : (enterMode m s).pending = s.pending := by cases m <;> simp [enterMode, enterActive]
@[simp] theorem enterMode_ctrl_mode (m : Mode) : (enterMode m s).ctrl.mode = m := by cases m <;> simp [enterMode, enterActive]
@[simp] theorem enterMode_ctrl_guardLock (m : Mode) : (enterMode m s).ctrl.guardLock = s.ctrl.guardLock := by cases m <;> simp [enterMode, enterActive]
@[simp] theorem enterMode_ctrl_freezeRequests (m : Mode) : (enterMode m s).ctrl.freezeRequests = s.ctrl.freezeRequests := by cases m <;> simp [enterMode, enterActive]
@[simp] theorem enterMode_near_credits (m : Mode) : (enterMode m s).near.credits = s.near.credits := by cases m <;> simp [enterMode, enterActive]
@[simp] theorem enterMode_near_sent (m : Mode) : (enterMode m s).near.sent = s.near.sent := by cases m <;> simp [enterMode, enterActive]
@[simp] theorem enterMode_near_lastWinner (m : Mode) : (enterMode m s).near.lastWinner = s.near.lastWinner := by cases m <;> simp [enterMode, enterActive]
@[simp] theorem enterMode_near_refusals (m : Mode) : (enterMode m s).near.refusals = s.near.refusals := by cases m <;> simp [enterMode, enterActive]
@[simp] theorem enterMode_far_credits (m : Mode) : (enterMode m s).far.credits = s.far.credits := by cases m <;> simp [enterMode, enterActive]
@[simp] theorem enterMode_far_sent (m : Mode) : (enterMode m s).far.sent = s.far.sent := by cases m <;> simp [enterMode, enterActive]
@[simp] theorem enterMode_far_lastWinner (m : Mode) : (enterMode m s).far.lastWinner = s.far.lastWinner := by cases m <;> simp [enterMode, enterActive]
@[simp] theorem enterMode_far_buffer (m : Mode) : (enterMode m s).far.buffer = s.far.buffer := by cases m <;> simp [enterMode, enterActive]
@[simp] theorem enterMode_far_granted (m : Mode) : (enterMode m s).far.granted = s.far.granted := by cases m <;> simp [enterMode, enterActive]
@[simp] theorem enterMode_ring_config (m : Mode) : (enterMode m s).ring.config = s.ring.config := by cases m <;> simp [enterMode, enterActive]
@[simp] theorem enterMode_ring_p (m : Mode) : (enterMode m s).ring.p = s.ring.p := by cases m <;> simp [enterMode, enterActive]
@[simp] theorem enterMode_ring_c (m : Mode) : (enterMode m s).ring.c = s.ring.c := by cases m <;> simp [enterMode, enterActive]
@[simp] theorem enterMode_ring_seq (m : Mode) : (enterMode m s).ring.seq = s.ring.seq := by cases m <;> simp [enterMode, enterActive]
@[simp] theorem enterMode_ring_overrun (m : Mode) : (enterMode m s).ring.overrun = s.ring.overrun := by cases m <;> simp [enterMode, enterActive]
@[simp] theorem enterMode_ring_overrunSeen (m : Mode) : (enterMode m s).ring.overrunSeen = s.ring.overrunSeen := by cases m <;> simp [enterMode, enterActive]
@[simp] theorem enterMode_ring_queue (m : Mode) : (enterMode m s).ring.queue = s.ring.queue := by cases m <;> simp [enterMode, enterActive]
@[simp] theorem enterMode_ring_writer (m : Mode) : (enterMode m s).ring.writer = s.ring.writer := by cases m <;> simp [enterMode, enterActive]

@[simp] theorem removeEntry_pins (p : OrtEntry → Bool) (e : OrtEntry) : (removeEntry p e s).pins = s.pins := by simp [removeEntry]
@[simp] theorem removeEntry_linkUp (p : OrtEntry → Bool) (e : OrtEntry) : (removeEntry p e s).linkUp = s.linkUp := by simp [removeEntry]
@[simp] theorem removeEntry_near (p : OrtEntry → Bool) (e : OrtEntry) : (removeEntry p e s).near = s.near := by simp [removeEntry]
@[simp] theorem removeEntry_far (p : OrtEntry → Bool) (e : OrtEntry) : (removeEntry p e s).far = s.far := by simp [removeEntry]
@[simp] theorem removeEntry_ctrl (p : OrtEntry → Bool) (e : OrtEntry) : (removeEntry p e s).ctrl = s.ctrl := by simp [removeEntry]
@[simp] theorem removeEntry_time (p : OrtEntry → Bool) (e : OrtEntry) : (removeEntry p e s).time = s.time := by simp [removeEntry]
@[simp] theorem removeEntry_sources (p : OrtEntry → Bool) (e : OrtEntry) : (removeEntry p e s).sources = s.sources := by simp [removeEntry]
@[simp] theorem removeEntry_timers (p : OrtEntry → Bool) (e : OrtEntry) : (removeEntry p e s).timers = s.timers := by simp [removeEntry]
@[simp] theorem removeEntry_fill (p : OrtEntry → Bool) (e : OrtEntry) : (removeEntry p e s).fill = s.fill := by simp [removeEntry]
@[simp] theorem removeEntry_counters (p : OrtEntry → Bool) (e : OrtEntry) : (removeEntry p e s).counters = s.counters := by simp [removeEntry]
@[simp] theorem removeEntry_ring (p : OrtEntry → Bool) (e : OrtEntry) : (removeEntry p e s).ring = s.ring := by simp [removeEntry]
@[simp] theorem removeEntry_seqr (p : OrtEntry → Bool) (e : OrtEntry) : (removeEntry p e s).seqr = s.seqr := by simp [removeEntry]
@[simp] theorem removeEntry_events (p : OrtEntry → Bool) (e : OrtEntry) : (removeEntry p e s).events = s.events := by simp [removeEntry]
@[simp] theorem removeEntry_port (p : OrtEntry → Bool) (e : OrtEntry) : (removeEntry p e s).port = s.port := by simp [removeEntry]
@[simp] theorem removeEntry_pending (p : OrtEntry → Bool) (e : OrtEntry) : (removeEntry p e s).pending = s.pending := by simp [removeEntry]
@[simp] theorem removeEntry_ort (p : OrtEntry → Bool) (e : OrtEntry) : (removeEntry p e s).ort = s.ort.eraseP p := by simp [removeEntry]

@[simp] theorem keepExpired_pins (e : OrtEntry) (r : Record) : (keepExpired e r s).pins = s.pins := by simp [keepExpired]
@[simp] theorem keepExpired_linkUp (e : OrtEntry) (r : Record) : (keepExpired e r s).linkUp = s.linkUp := by simp [keepExpired]
@[simp] theorem keepExpired_near (e : OrtEntry) (r : Record) : (keepExpired e r s).near = s.near := by simp [keepExpired]
@[simp] theorem keepExpired_far (e : OrtEntry) (r : Record) : (keepExpired e r s).far = s.far := by simp [keepExpired]
@[simp] theorem keepExpired_ctrl (e : OrtEntry) (r : Record) : (keepExpired e r s).ctrl = s.ctrl := by simp [keepExpired]
@[simp] theorem keepExpired_time (e : OrtEntry) (r : Record) : (keepExpired e r s).time = s.time := by simp [keepExpired]
@[simp] theorem keepExpired_sources (e : OrtEntry) (r : Record) : (keepExpired e r s).sources = s.sources := by simp [keepExpired]
@[simp] theorem keepExpired_timers (e : OrtEntry) (r : Record) : (keepExpired e r s).timers = s.timers := by simp [keepExpired]
@[simp] theorem keepExpired_fill (e : OrtEntry) (r : Record) : (keepExpired e r s).fill = s.fill := by simp [keepExpired]
@[simp] theorem keepExpired_counters (e : OrtEntry) (r : Record) : (keepExpired e r s).counters = s.counters := by simp [keepExpired]
@[simp] theorem keepExpired_ring (e : OrtEntry) (r : Record) : (keepExpired e r s).ring = s.ring := by simp [keepExpired]
@[simp] theorem keepExpired_seqr (e : OrtEntry) (r : Record) : (keepExpired e r s).seqr = s.seqr := by simp [keepExpired]
@[simp] theorem keepExpired_events (e : OrtEntry) (r : Record) : (keepExpired e r s).events = s.events := by simp [keepExpired]
@[simp] theorem keepExpired_port (e : OrtEntry) (r : Record) : (keepExpired e r s).port = s.port := by simp [keepExpired]
@[simp] theorem keepExpired_pending (e : OrtEntry) (r : Record) : (keepExpired e r s).pending = s.pending := by simp [keepExpired]

@[simp] theorem placeExpiry_pins (e : OrtEntry) (r : Option Record) : (placeExpiry e r s).pins = s.pins := by unfold placeExpiry; dsimp only; split <;> (try split) <;> (try split) <;> simp
@[simp] theorem placeExpiry_linkUp (e : OrtEntry) (r : Option Record) : (placeExpiry e r s).linkUp = s.linkUp := by unfold placeExpiry; dsimp only; split <;> (try split) <;> (try split) <;> simp
@[simp] theorem placeExpiry_near (e : OrtEntry) (r : Option Record) : (placeExpiry e r s).near = s.near := by unfold placeExpiry; dsimp only; split <;> (try split) <;> (try split) <;> simp
@[simp] theorem placeExpiry_far (e : OrtEntry) (r : Option Record) : (placeExpiry e r s).far = s.far := by unfold placeExpiry; dsimp only; split <;> (try split) <;> (try split) <;> simp
@[simp] theorem placeExpiry_ctrl (e : OrtEntry) (r : Option Record) : (placeExpiry e r s).ctrl = s.ctrl := by unfold placeExpiry; dsimp only; split <;> (try split) <;> (try split) <;> simp
@[simp] theorem placeExpiry_time (e : OrtEntry) (r : Option Record) : (placeExpiry e r s).time = s.time := by unfold placeExpiry; dsimp only; split <;> (try split) <;> (try split) <;> simp
@[simp] theorem placeExpiry_sources (e : OrtEntry) (r : Option Record) : (placeExpiry e r s).sources = s.sources := by unfold placeExpiry; dsimp only; split <;> (try split) <;> (try split) <;> simp
@[simp] theorem placeExpiry_timers (e : OrtEntry) (r : Option Record) : (placeExpiry e r s).timers = s.timers := by unfold placeExpiry; dsimp only; split <;> (try split) <;> (try split) <;> simp
@[simp] theorem placeExpiry_fill (e : OrtEntry) (r : Option Record) : (placeExpiry e r s).fill = s.fill := by unfold placeExpiry; dsimp only; split <;> (try split) <;> (try split) <;> simp
@[simp] theorem placeExpiry_counters (e : OrtEntry) (r : Option Record) : (placeExpiry e r s).counters = s.counters := by unfold placeExpiry; dsimp only; split <;> (try split) <;> (try split) <;> simp
@[simp] theorem placeExpiry_seqr (e : OrtEntry) (r : Option Record) : (placeExpiry e r s).seqr = s.seqr := by unfold placeExpiry; dsimp only; split <;> (try split) <;> (try split) <;> simp
@[simp] theorem placeExpiry_port (e : OrtEntry) (r : Option Record) : (placeExpiry e r s).port = s.port := by unfold placeExpiry; dsimp only; split <;> (try split) <;> (try split) <;> simp
@[simp] theorem placeExpiry_pending (e : OrtEntry) (r : Option Record) : (placeExpiry e r s).pending = s.pending := by unfold placeExpiry; dsimp only; split <;> (try split) <;> (try split) <;> simp
@[simp] theorem placeExpiry_ring_config (e : OrtEntry) (r : Option Record) : (placeExpiry e r s).ring.config = s.ring.config := by unfold placeExpiry; dsimp only; split <;> (try split) <;> (try split) <;> simp
@[simp] theorem placeExpiry_ring_p (e : OrtEntry) (r : Option Record) : (placeExpiry e r s).ring.p = s.ring.p := by unfold placeExpiry; dsimp only; split <;> (try split) <;> (try split) <;> simp
@[simp] theorem placeExpiry_ring_c (e : OrtEntry) (r : Option Record) : (placeExpiry e r s).ring.c = s.ring.c := by unfold placeExpiry; dsimp only; split <;> (try split) <;> (try split) <;> simp
@[simp] theorem placeExpiry_ring_seq (e : OrtEntry) (r : Option Record) : (placeExpiry e r s).ring.seq = s.ring.seq := by unfold placeExpiry; dsimp only; split <;> (try split) <;> (try split) <;> simp
@[simp] theorem placeExpiry_ring_overrunSeen (e : OrtEntry) (r : Option Record) : (placeExpiry e r s).ring.overrunSeen = s.ring.overrunSeen := by unfold placeExpiry; dsimp only; split <;> (try split) <;> (try split) <;> simp
@[simp] theorem placeExpiry_ring_writer (e : OrtEntry) (r : Option Record) : (placeExpiry e r s).ring.writer = s.ring.writer := by unfold placeExpiry; dsimp only; split <;> (try split) <;> (try split) <;> simp

@[simp] theorem expire_pins (e : OrtEntry) : (expire e s).pins = s.pins := by unfold expire; dsimp only; split <;> simp
@[simp] theorem expire_linkUp (e : OrtEntry) : (expire e s).linkUp = s.linkUp := by unfold expire; dsimp only; split <;> simp
@[simp] theorem expire_near (e : OrtEntry) : (expire e s).near = s.near := by unfold expire; dsimp only; split <;> simp
@[simp] theorem expire_far (e : OrtEntry) : (expire e s).far = s.far := by unfold expire; dsimp only; split <;> simp
@[simp] theorem expire_time (e : OrtEntry) : (expire e s).time = s.time := by unfold expire; dsimp only; split <;> simp
@[simp] theorem expire_sources (e : OrtEntry) : (expire e s).sources = s.sources := by unfold expire; dsimp only; split <;> simp
@[simp] theorem expire_timers (e : OrtEntry) : (expire e s).timers = s.timers := by unfold expire; dsimp only; split <;> simp
@[simp] theorem expire_fill (e : OrtEntry) : (expire e s).fill = s.fill := by unfold expire; dsimp only; split <;> simp
@[simp] theorem expire_port (e : OrtEntry) : (expire e s).port = s.port := by unfold expire; dsimp only; split <;> simp
@[simp] theorem expire_pending (e : OrtEntry) : (expire e s).pending = s.pending := by unfold expire; dsimp only; split <;> simp
@[simp] theorem expire_ctrl_mode (e : OrtEntry) : (expire e s).ctrl.mode = s.ctrl.mode := by unfold expire; dsimp only; split <;> simp
@[simp] theorem expire_ctrl_guardLock (e : OrtEntry) : (expire e s).ctrl.guardLock = s.ctrl.guardLock := by unfold expire; dsimp only; split <;> simp
@[simp] theorem expire_seqr_stages (e : OrtEntry) : (expire e s).seqr.stages = s.seqr.stages := by unfold expire; dsimp only; split <;> simp
@[simp] theorem expire_seqr_settings (e : OrtEntry) : (expire e s).seqr.settings = s.seqr.settings := by unfold expire; dsimp only; split <;> simp
@[simp] theorem expire_ring_config (e : OrtEntry) : (expire e s).ring.config = s.ring.config := by unfold expire; dsimp only; split <;> simp
@[simp] theorem expire_ring_p (e : OrtEntry) : (expire e s).ring.p = s.ring.p := by unfold expire; dsimp only; split <;> simp
@[simp] theorem expire_ring_c (e : OrtEntry) : (expire e s).ring.c = s.ring.c := by unfold expire; dsimp only; split <;> simp
@[simp] theorem expire_ring_overrunSeen (e : OrtEntry) : (expire e s).ring.overrunSeen = s.ring.overrunSeen := by unfold expire; dsimp only; split <;> simp
@[simp] theorem expire_ring_writer (e : OrtEntry) : (expire e s).ring.writer = s.ring.writer := by unfold expire; dsimp only; split <;> simp


end Sys2Proof.Machine
end

