-- ==== Sys2Proof/Laws/Moves.lean ====
section
/-! SUPPORT. How the heads of the two buffers, the Capture Queue and the reserved slots move under each shared operation. -/

namespace Sys2Proof.Machine

set_option Elab.async false

/-! ## The near side -/

/-- What happens to the near side when its head request goes on: the request leaves, or takes a position. -/
def NearMoved (n t : NearPort) : Prop := t = leftNear n ∨ ∃ h, h ≠ .fresh ∧ t = { n with head := h }

theorem continueRequest_moves (next : AfterCapture) (s : State) : NearMoved s.near (continueRequest next s).near := by
  cases next with
  | forward f => exact .inr ⟨.ready f, by simp, rfl⟩
  | drop => exact .inl rfl
  | refuse r => exact .inr ⟨.waitRefusal r true, by simp, rfl⟩

theorem placeRequest_moves (r : Record) (next : AfterCapture) (s : State) : NearMoved s.near (placeRequest r next s).near := by
  unfold placeRequest; split
  · exact continueRequest_moves next (enqueue r s)
  · exact .inr ⟨_, by simp, rfl⟩

theorem captureRequest_moves (r : Option Record) (next : AfterCapture) (s : State) :
    NearMoved s.near (captureRequest r next s).near := by
  unfold captureRequest; split
  · exact continueRequest_moves next s
  · split
    · exact placeRequest_moves _ next s
    · exact .inr ⟨_, by simp, rfl⟩
    · simpa using continueRequest_moves next (dropRecord s)

theorem releaseRequest_moves (s : State) : (releaseRequest s).near = s.near ∨ NearMoved s.near (releaseRequest s).near := by
  unfold releaseRequest; split
  · split
    · exact .inr (placeRequest_moves _ _ s)
    · exact .inl rfl
  · exact .inl rfl

theorem abandonHeldRequest_moves (s : State) :
    (abandonHeldRequest s).near = s.near ∨ NearMoved s.near (abandonHeldRequest s).near := by
  unfold abandonHeldRequest; split
  · exact .inr (continueRequest_moves _ (loseRecord s))
  · exact .inl rfl

/-- A request that goes on is neither held nor waiting for room. -/
theorem continueRequest_head (next : AfterCapture) (s : State) :
    headWaitsForRoom (continueRequest next s).near.head = false ∧ holdOf .request (continueRequest next s) = none := by
  cases next <;> exact ⟨rfl, rfl⟩

/-- A request whose record has its slot is not held. -/
theorem placeRequest_notHeld (r : Record) (next : AfterCapture) (s : State) : holdOf .request (placeRequest r next s) = none := by
  unfold placeRequest; split
  · exact (continueRequest_head next _).2
  · rfl

theorem abandonHeldRequest_notHeld (s : State) : holdOf .request (abandonHeldRequest s) = none := by
  unfold abandonHeldRequest; split
  · exact (continueRequest_head _ _).2
  · simp only [holdOf]

/-! ## The far side -/

theorem placeResponse_notHeld (r : Record) (p : ResponsePacket) (s : State) :
    (placeResponse r p s).far.head ≠ .fresh ∧ holdOf .response (placeResponse r p s) = none := by
  unfold placeResponse; split <;> exact ⟨by simp, rfl⟩

theorem captureResponse_head (r : Option Record) (p : ResponsePacket) (s : State) : (captureResponse r p s).far.head ≠ .fresh := by
  unfold captureResponse; split
  · simp
  · split
    · exact (placeResponse_notHeld _ p s).1
    · simp
    · simp

theorem abandonHeldResponse_notHeld (s : State) : holdOf .response (abandonHeldResponse s) = none := by
  unfold abandonHeldResponse; split
  · rfl
  · simp only [holdOf]

/-! ## The Capture Queue -/

theorem queueOpen_iff (s : State) : queueOpen s = true ↔ s.ring.queue.length < Config.captureQueueSize ∧ waitingRecords s = 0 := by
  simp [queueOpen]

theorem placeRequest_queue (r : Record) (next : AfterCapture) (s : State) (h : s.ring.queue.length ≤ Config.captureQueueSize) :
    (placeRequest r next s).ring.queue.length ≤ Config.captureQueueSize := by
  unfold placeRequest; split
  · have := ((queueOpen_iff s).mp ‹_›).1; simp; omega
  · exact h

theorem placeResponse_queue (r : Record) (p : ResponsePacket) (s : State) (h : s.ring.queue.length ≤ Config.captureQueueSize) :
    (placeResponse r p s).ring.queue.length ≤ Config.captureQueueSize := by
  unfold placeResponse; split
  · have := ((queueOpen_iff s).mp ‹_›).1; simp; omega
  · exact h

theorem captureRequest_queue (r : Option Record) (next : AfterCapture) (s : State)
    (h : s.ring.queue.length ≤ Config.captureQueueSize) :
    (captureRequest r next s).ring.queue.length ≤ Config.captureQueueSize := by
  unfold captureRequest; split
  · simpa
  · split
    · exact placeRequest_queue _ _ _ h
    · simpa
    · simpa

theorem captureResponse_queue (r : Option Record) (p : ResponsePacket) (s : State)
    (h : s.ring.queue.length ≤ Config.captureQueueSize) :
    (captureResponse r p s).ring.queue.length ≤ Config.captureQueueSize := by
  unfold captureResponse; split
  · simpa
  · split
    · exact placeResponse_queue _ _ _ h
    · simpa
    · simpa

/-! ## Slots -/

/-- What reserved depends on. -/
theorem reserved_congr {s t : State} (hp : t.ring.p = s.ring.p) (hc : t.ring.c = s.ring.c)
    (hq : t.ring.queue.length = s.ring.queue.length) (hn : headWaitsForRoom t.near.head = headWaitsForRoom s.near.head)
    (hf : responseWaitsForRoom t.far.head = responseWaitsForRoom s.far.head)
    (ho : t.ort.countP isExpired = s.ort.countP isExpired) : reserved t = reserved s := by
  simp only [reserved, waitingRecords, unconsumed, hp, hc, hq, hn, hf, ho]

theorem reserved_enqueue (r : Record) (s : State) : reserved (enqueue r s) = reserved s + 1 := by
  simp only [reserved, waitingRecords, unconsumed, enqueue_ring, enqueue_near, enqueue_far, enqueue_ort, List.length_append,
    List.length_singleton]
  omega

/-- A request that goes on reserves what it reserved, if its record did not wait with a slot. -/
theorem reserved_continueRequest (next : AfterCapture) (s : State) (h : headWaitsForRoom s.near.head = false) :
    reserved (continueRequest next s) = reserved s :=
  reserved_congr (by simp) (by simp) (by simp) (by rw [(continueRequest_head next s).1, h]) (by simp) (by simp)

theorem reserved_placeRequest (r : Record) (next : AfterCapture) (s : State) (h : headWaitsForRoom s.near.head = false) :
    reserved (placeRequest r next s) = reserved s + 1 := by
  unfold placeRequest; split
  · rw [reserved_continueRequest next _ (by simpa using h), reserved_enqueue]
  · have hw : headWaitsForRoom (.waitRoom r next) = true := rfl
    simp only [reserved, waitingRecords, unconsumed, setHead_ring, setHead_near, setHead_far, setHead_ort, h, hw, Bool.toNat_true,
      Bool.toNat_false]
    omega

theorem reserved_placeResponse (r : Record) (p : ResponsePacket) (s : State) (h : responseWaitsForRoom s.far.head = false) :
    reserved (placeResponse r p s) = reserved s + 1 := by
  unfold placeResponse; split
  · rw [← reserved_enqueue r s]
    exact reserved_congr rfl rfl rfl rfl (by rw [setResponseHead_far, enqueue_far, h]; rfl) rfl
  · have hw : responseWaitsForRoom (.waitRoom r p) = true := rfl
    simp only [reserved, waitingRecords, unconsumed, setResponseHead_ring, setResponseHead_near, setResponseHead_far,
      setResponseHead_ort, h, hw, Bool.toNat_true, Bool.toNat_false]
    omega

/-! ## Read tracking -/

theorem findLive_some {src : SourceId} {tag : Tag} {s : State} {e : OrtEntry} (h : findLive src tag s = some e) :
    e ∈ s.ort ∧ e.source = src ∧ e.tag = tag ∧ isExpired e = false := by
  have hp := List.find?_some h
  simp only [holdsKeyLive, holdsKey, Bool.and_eq_true, beq_iff_eq, Bool.not_eq_true'] at hp
  exact ⟨List.mem_of_find?_eq_some h, hp.1.1, hp.1.2, hp.2⟩

/-- What an arrival or the sending of a read does to an entry keeps its key, its sets and whether it is in EXPIRED. -/
theorem answerEntry_keeps (now : Ticks) (e : OrtEntry) :
    (answerEntry now e).source = e.source ∧ (answerEntry now e).tag = e.tag ∧ (answerEntry now e).pendingRules = e.pendingRules ∧
    (answerEntry now e).noData = e.noData ∧ isExpired (answerEntry now e) = isExpired e := by
  unfold answerEntry; split <;> rename_i h <;> simp [isExpired, h]

theorem startTimer_keeps (now : Ticks) (limit : BitVec 16) (e : OrtEntry) :
    (startTimer now limit e).source = e.source ∧ (startTimer now limit e).tag = e.tag ∧
    (startTimer now limit e).pendingRules = e.pendingRules ∧ (startTimer now limit e).noData = e.noData ∧
    isExpired (startTimer now limit e) = isExpired e := by
  unfold startTimer; split <;> rename_i h
  · simp [isExpired, h]
  · split <;> simp [isExpired, h]
  · simp
  · simp

theorem orphan_keeps (e : OrtEntry) :
    (orphan e).source = e.source ∧ (orphan e).tag = e.tag ∧ isExpired (orphan e) = isExpired e := by
  unfold orphan; split
  · exact ⟨rfl, rfl, rfl⟩
  · exact ⟨rfl, rfl, rfl⟩

/-! ## Events -/

theorem eventIndex_lt (src : EventSource) : eventIndex src < 11 := by cases src <;> decide

theorem eventIndex_inj {a b : EventSource} (h : eventIndex a = eventIndex b) : a = b := by
  cases a <;> cases b <;> first | rfl | exact absurd h (by decide)

theorem mem_allSources (src : EventSource) : src ∈ allSources := by cases src <;> decide

end Sys2Proof.Machine
end

