-- ==== Sys2Proof/Laws/PerInstr.lean ====
section
/-! SUPPORT. What holds of every command as an operand form: the frame of a management command has the number of parameter bytes that
12.3 gives its code. -/

namespace Sys2Proof.Laws

set_option Elab.async false

open Sys2Proof.Machine

/-- A command that is a whole frame carries exactly the parameter bytes of its code (R175, 12.3). -/
def FrameLength.Statement (i : Instr) : Prop :=
  ∀ cmd params tail, frameOf i = some (cmd, params, tail) → params.length = paramCount cmd

theorem termBytes_length (t : PatternTerm) : (termBytes t).length = 3 := rfl

theorem be16_length (x : BitVec 16) : (be16 x).length = 2 := rfl
theorem be32_length (x : BitVec 32) : (be32 x).length = 4 := rfl
theorem le16_length (x : BitVec 16) : (le16 x).length = 2 := rfl
theorem le32_length (x : BitVec 32) : (le32 x).length = 4 := rfl

theorem flatMap_termBytes_length (l : List PatternTerm) : (l.flatMap termBytes).length = 3 * l.length := by
  induction l with
  | nil => rfl
  | cons t l ih => rw [List.flatMap_cons, List.length_append, ih, termBytes_length, List.length_cons]; omega

/-- LOAD_RULE has 52 parameter bytes. -/
theorem ruleParamBytes_length (p : RuleParams) : (ruleParamBytes p).length = 52 := by
  simp only [ruleParamBytes, List.length_append, be32_length, flatMap_termBytes_length, p.terms.size_eq, List.length_cons,
    List.length_nil]

/-- SET_RING has 16 parameter bytes. -/
theorem ringParamBytes_length (p : RingParams) : (ringParamBytes p).length = 16 := by
  simp [ringParamBytes, be32_length, be16_length]

/-- A command that is no whole frame satisfies the statement. -/
theorem frameLength_of_none {i : Instr} (h : frameOf i = none) : FrameLength.Statement i :=
  fun _ _ _ h' => nomatch h.symm.trans h'

/-- A whole frame satisfies the statement when its parameter bytes have the number of its code. -/
theorem frameLength_of_some {i : Instr} {c : MgmtCommand} {p : List Byte} {t : FrameTail} (h : frameOf i = some (c, p, t))
    (l : p.length = paramCount c) : FrameLength.Statement i := by
  intro cmd params tail h'
  cases h.symm.trans h'
  exact l

theorem FrameLength.requestArrival (p : RequestPacket) : FrameLength.Statement (.requestArrival p) :=
  frameLength_of_none rfl
theorem FrameLength.responseArrival (p : ResponsePacket) : FrameLength.Statement (.responseArrival p) :=
  frameLength_of_none rfl
theorem FrameLength.requestAtHead : FrameLength.Statement (.requestAtHead) :=
  frameLength_of_none rfl
theorem FrameLength.ortEntryCreate : FrameLength.Statement (.ortEntryCreate) :=
  frameLength_of_none rfl
theorem FrameLength.refusalQueueAdmit : FrameLength.Statement (.refusalQueueAdmit) :=
  frameLength_of_none rfl
theorem FrameLength.responseAtHead : FrameLength.Statement (.responseAtHead) :=
  frameLength_of_none rfl
theorem FrameLength.captureQueueAdmit : FrameLength.Statement (.captureQueueAdmit) :=
  frameLength_of_none rfl
theorem FrameLength.farPortGrant : FrameLength.Statement (.farPortGrant) :=
  frameLength_of_none rfl
theorem FrameLength.captureWriterStart : FrameLength.Statement (.captureWriterStart) :=
  frameLength_of_none rfl
theorem FrameLength.nearPortResponseGrant : FrameLength.Statement (.nearPortResponseGrant) :=
  frameLength_of_none rfl
theorem FrameLength.farRequestCredit (count : Nat) : FrameLength.Statement (.farRequestCredit count) :=
  frameLength_of_none rfl
theorem FrameLength.nearResponseCredit (count : Nat) : FrameLength.Statement (.nearResponseCredit count) :=
  frameLength_of_none rfl
theorem FrameLength.readTimerExpiry (source : SourceId) (tag : Tag) : FrameLength.Statement (.readTimerExpiry source tag) :=
  frameLength_of_none rfl
theorem FrameLength.holdExpiry (side : HoldSide) : FrameLength.Statement (.holdExpiry side) :=
  frameLength_of_none rfl
theorem FrameLength.stageWindowExpiry : FrameLength.Statement (.stageWindowExpiry) :=
  frameLength_of_none rfl
theorem FrameLength.markPulseEnd : FrameLength.Statement (.markPulseEnd) :=
  frameLength_of_none rfl
theorem FrameLength.timeTick : FrameLength.Statement (.timeTick) :=
  frameLength_of_none rfl
theorem FrameLength.freezeRequest : FrameLength.Statement (.freezeRequest) :=
  frameLength_of_none rfl
theorem FrameLength.linkReset : FrameLength.Statement .linkReset :=
  frameLength_of_none rfl
theorem FrameLength.boardReset : FrameLength.Statement .boardReset :=
  frameLength_of_none rfl
theorem FrameLength.powerOn : FrameLength.Statement .powerOn :=
  frameLength_of_none rfl
theorem FrameLength.linkUp (release : Release) : FrameLength.Statement (.linkUp release) :=
  frameLength_of_none rfl
theorem FrameLength.frameAbort (bits : List Bool) (after : List PortEdge) : FrameLength.Statement (.frameAbort bits after) :=
  frameLength_of_none rfl
theorem FrameLength.badCommand (code : Byte) (after : List PortEdge) : FrameLength.Statement (.badCommand code after) :=
  frameLength_of_none rfl
theorem FrameLength.status (tail : FrameTail) : FrameLength.Statement (.status tail) :=
  frameLength_of_some rfl rfl
theorem FrameLength.setMode (mode : Byte) (tail : FrameTail) : FrameLength.Statement (.setMode mode tail) :=
  frameLength_of_some rfl rfl
theorem FrameLength.lockGuards (tail : FrameTail) : FrameLength.Statement (.lockGuards tail) :=
  frameLength_of_some rfl rfl
theorem FrameLength.loadSource (index sourceId cls flags : Byte) (tail : FrameTail) :
    FrameLength.Statement (.loadSource index sourceId cls flags tail) :=
  frameLength_of_some rfl rfl
theorem FrameLength.clearSource (index : Byte) (tail : FrameTail) : FrameLength.Statement (.clearSource index tail) :=
  frameLength_of_some rfl rfl
theorem FrameLength.readSource (index clear : Byte) (tail : FrameTail) : FrameLength.Statement (.readSource index clear tail) :=
  frameLength_of_some rfl rfl
theorem FrameLength.loadRule (params : RuleParams) (tail : FrameTail) : FrameLength.Statement (.loadRule params tail) :=
  frameLength_of_some rfl (ruleParamBytes_length params)
theorem FrameLength.enableRule (index : Byte) (tail : FrameTail) : FrameLength.Statement (.enableRule index tail) :=
  frameLength_of_some rfl rfl
theorem FrameLength.disableRule (index : Byte) (tail : FrameTail) : FrameLength.Statement (.disableRule index tail) :=
  frameLength_of_some rfl rfl
theorem FrameLength.clearRule (index : Byte) (tail : FrameTail) : FrameLength.Statement (.clearRule index tail) :=
  frameLength_of_some rfl rfl
theorem FrameLength.readRule (index : Byte) (tail : FrameTail) : FrameLength.Statement (.readRule index tail) :=
  frameLength_of_some rfl rfl
theorem FrameLength.readCounters (index : Byte) (tail : FrameTail) : FrameLength.Statement (.readCounters index tail) :=
  frameLength_of_some rfl rfl
theorem FrameLength.readGlobals (tail : FrameTail) : FrameLength.Statement (.readGlobals tail) :=
  frameLength_of_some rfl rfl
theorem FrameLength.setRing (params : RingParams) (tail : FrameTail) : FrameLength.Statement (.setRing params tail) :=
  frameLength_of_some rfl (ringParamBytes_length params)
theorem FrameLength.ringStatus (tail : FrameTail) : FrameLength.Statement (.ringStatus tail) :=
  frameLength_of_some rfl rfl
theorem FrameLength.setFill (bytes : Table Byte 16) (tail : FrameTail) : FrameLength.Statement (.setFill bytes tail) :=
  frameLength_of_some rfl bytes.size_eq
theorem FrameLength.setTimers (readTimeout holdLimit : BitVec 16) (monitorSource : Byte) (tail : FrameTail) :
    FrameLength.Statement (.setTimers readTimeout holdLimit monitorSource tail) :=
  frameLength_of_some rfl rfl
theorem FrameLength.loadStage (index : Byte) (rules : RuleSet) (count : BitVec 16) (window : BitVec 32) (onExpiry : Byte) (tail : FrameTail) :
    FrameLength.Statement (.loadStage index rules count window onExpiry tail) :=
  frameLength_of_some rfl rfl
theorem FrameLength.setSequencer (stagesInUse : Byte) (abortRules : RuleSet) (postCount : BitVec 16) (fireActions : Byte) (tail : FrameTail) :
    FrameLength.Statement (.setSequencer stagesInUse abortRules postCount fireActions tail) :=
  frameLength_of_some rfl rfl
theorem FrameLength.seqStart (tail : FrameTail) : FrameLength.Statement (.seqStart tail) :=
  frameLength_of_some rfl rfl
theorem FrameLength.seqStop (tail : FrameTail) : FrameLength.Statement (.seqStop tail) :=
  frameLength_of_some rfl rfl
theorem FrameLength.seqStatus (tail : FrameTail) : FrameLength.Statement (.seqStatus tail) :=
  frameLength_of_some rfl rfl
theorem FrameLength.readSnapshot (tail : FrameTail) : FrameLength.Statement (.readSnapshot tail) :=
  frameLength_of_some rfl rfl
theorem FrameLength.clearSnapshot (tail : FrameTail) : FrameLength.Statement (.clearSnapshot tail) :=
  frameLength_of_some rfl rfl
theorem FrameLength.takeEvent (tail : FrameTail) : FrameLength.Statement (.takeEvent tail) :=
  frameLength_of_some rfl rfl
theorem FrameLength.endEvent (tail : FrameTail) : FrameLength.Statement (.endEvent tail) :=
  frameLength_of_some rfl rfl
theorem FrameLength.setEventEnable (level0 level1 level2 level3 globalEnable : Byte) (tail : FrameTail) :
    FrameLength.Statement (.setEventEnable level0 level1 level2 level3 globalEnable tail) :=
  frameLength_of_some rfl rfl

end Sys2Proof.Laws
end

