-- ==== Sys2Proof/Laws/Serial.lean ====
section
/-! SUPPORT. The serial link: what each of its operations keeps, and what a run of edges does one edge at a time. -/

namespace Sys2Proof.Machine

set_option Elab.async false

variable (s : State) (p : MgmtPort)

/-! ## Edges before a row change the port alone -/

theorem takeEdges_frame (es : List PortEdge) : takeEdges es s = { s with port := (takeEdges es s).port } := by
  unfold takeEdges; split <;> rfl

@[simp] theorem takeEdges_pins (es : List PortEdge) : (takeEdges es s).pins = s.pins := by
  unfold takeEdges; split <;> rfl

@[simp] theorem takeEdges_linkUp (es : List PortEdge) : (takeEdges es s).linkUp = s.linkUp := by
  unfold takeEdges; split <;> rfl

@[simp] theorem takeEdges_near (es : List PortEdge) : (takeEdges es s).near = s.near := by
  unfold takeEdges; split <;> rfl

@[simp] theorem takeEdges_far (es : List PortEdge) : (takeEdges es s).far = s.far := by
  unfold takeEdges; split <;> rfl

@[simp] theorem takeEdges_ctrl (es : List PortEdge) : (takeEdges es s).ctrl = s.ctrl := by
  unfold takeEdges; split <;> rfl

@[simp] theorem takeEdges_time (es : List PortEdge) : (takeEdges es s).time = s.time := by
  unfold takeEdges; split <;> rfl

@[simp] theorem takeEdges_sources (es : List PortEdge) : (takeEdges es s).sources = s.sources := by
  unfold takeEdges; split <;> rfl

@[simp] theorem takeEdges_rules (es : List PortEdge) : (takeEdges es s).rules = s.rules := by
  unfold takeEdges; split <;> rfl

@[simp] theorem takeEdges_ort (es : List PortEdge) : (takeEdges es s).ort = s.ort := by
  unfold takeEdges; split <;> rfl

@[simp] theorem takeEdges_timers (es : List PortEdge) : (takeEdges es s).timers = s.timers := by
  unfold takeEdges; split <;> rfl

@[simp] theorem takeEdges_fill (es : List PortEdge) : (takeEdges es s).fill = s.fill := by
  unfold takeEdges; split <;> rfl

@[simp] theorem takeEdges_counters (es : List PortEdge) : (takeEdges es s).counters = s.counters := by
  unfold takeEdges; split <;> rfl

@[simp] theorem takeEdges_ring (es : List PortEdge) : (takeEdges es s).ring = s.ring := by
  unfold takeEdges; split <;> rfl

@[simp] theorem takeEdges_seqr (es : List PortEdge) : (takeEdges es s).seqr = s.seqr := by
  unfold takeEdges; split <;> rfl

@[simp] theorem takeEdges_events (es : List PortEdge) : (takeEdges es s).events = s.events := by
  unfold takeEdges; split <;> rfl

@[simp] theorem takeEdges_pending (es : List PortEdge) : (takeEdges es s).pending = s.pending := by
  unfold takeEdges; split <;> rfl

@[simp] theorem takeEdges_nil : takeEdges [] s = s := by
  unfold takeEdges; split <;> rfl

theorem takeEdges_port_of_up (es : List PortEdge) (h : inHardReset s = false) : (takeEdges es s).port = portEdges es s.port := by
  simp [takeEdges, h]

theorem takeEdges_port_of_reset (es : List PortEdge) (h : inHardReset s = true) :
    (takeEdges es s).port = { s.port with link := es.foldl pinEdge s.port.link } := by
  simp [takeEdges, h]

/-! ## A run of edges, one at a time -/

@[simp] theorem portEdges_nil : portEdges [] p = p := rfl

theorem portEdges_cons (e : PortEdge) (es : List PortEdge) (h : completesFrame p e = false) :
    portEdges (e :: es) p = portEdges es (portEdge p e) := by
  simp [portEdges, h]

theorem portEdges_stops (e : PortEdge) (es : List PortEdge) (h : completesFrame p e = true) : portEdges (e :: es) p = p := by
  simp [portEdges, h]

/-- What every edge keeps, every run of edges keeps. -/
theorem portEdges_keeps {P : MgmtPort → Prop} (step : ∀ q e, P q → completesFrame q e = false → P (portEdge q e)) :
    ∀ es q, P q → P (portEdges es q)
  | [], _, h => h
  | e :: es, q, h => by
    unfold portEdges
    split
    · exact h
    · rename_i hc
      exact portEdges_keeps step es _ (step q e h (by simpa using hc))

/-- What every pin keeps in power-on and board reset. -/
theorem pinEdges_keep {P : SerialLink → Prop} (step : ∀ l e, P l → P (pinEdge l e)) : ∀ (es : List PortEdge) (l : SerialLink), P l →
    P (es.foldl pinEdge l)
  | [], _, h => h
  | e :: es, l, h => pinEdges_keep step es _ (step l e h)

/-- In power-on and board reset an edge moves a pin, and neither the frame nor SDO nor the record. -/
theorem pinEdges_frame (es : List PortEdge) (l : SerialLink) :
    (es.foldl pinEdge l).frame = l.frame ∧ (es.foldl pinEdge l).sdo = l.sdo ∧ (es.foldl pinEdge l).read = l.read :=
  pinEdges_keep (P := fun k => k.frame = l.frame ∧ k.sdo = l.sdo ∧ k.read = l.read)
    (fun k e h => by cases e <;> exact h) es l ⟨rfl, rfl, rfl⟩

/-! ## What the operations keep of the rest of the port -/

@[simp] theorem closeFrame_slot : (closeFrame p).slot = p.slot := rfl

@[simp] theorem countAbort_slot : (countAbort p).slot = p.slot := by
  unfold countAbort; split <;> rfl

@[simp] theorem portEdge_slot (e : PortEdge) : (portEdge p e).slot = p.slot := by
  unfold portEdge; split <;> (try split) <;> simp

@[simp] theorem portEdges_slot (es : List PortEdge) : (portEdges es p).slot = p.slot :=
  portEdges_keeps (P := fun q => q.slot = p.slot) (fun q e h _ => (portEdge_slot q e).trans h) es p rfl

@[simp] theorem endedAnswer_slot : (endedAnswer p).slot = p.slot := by
  unfold endedAnswer; split <;> rfl

@[simp] theorem received_slot (bits : List Bool) : (received bits p).slot = p.slot := endedAnswer_slot p

@[simp] theorem startSending_slot (bytes : List Byte) (fill : Byte) : (startSending bytes fill p).slot = p.slot := rfl

@[simp] theorem takeEdges_port_slot (es : List PortEdge) : (takeEdges es s).port.slot = s.port.slot := by
  unfold takeEdges; split <;> simp

@[simp] theorem closeFrame_lastReset : (closeFrame p).lastReset = p.lastReset := rfl

@[simp] theorem countAbort_lastReset : (countAbort p).lastReset = p.lastReset := by
  unfold countAbort; split <;> rfl

@[simp] theorem portEdge_lastReset (e : PortEdge) : (portEdge p e).lastReset = p.lastReset := by
  unfold portEdge; split <;> (try split) <;> simp

@[simp] theorem portEdges_lastReset (es : List PortEdge) : (portEdges es p).lastReset = p.lastReset :=
  portEdges_keeps (P := fun q => q.lastReset = p.lastReset) (fun q e h _ => (portEdge_lastReset q e).trans h) es p rfl

@[simp] theorem endedAnswer_lastReset : (endedAnswer p).lastReset = p.lastReset := by
  unfold endedAnswer; split <;> rfl

@[simp] theorem received_lastReset (bits : List Bool) : (received bits p).lastReset = p.lastReset := endedAnswer_lastReset p

@[simp] theorem startSending_lastReset (bytes : List Byte) (fill : Byte) : (startSending bytes fill p).lastReset = p.lastReset := rfl

@[simp] theorem takeEdges_port_lastReset (es : List PortEdge) : (takeEdges es s).port.lastReset = s.port.lastReset := by
  unfold takeEdges; split <;> simp

@[simp] theorem closeFrame_resetCount : (closeFrame p).resetCount = p.resetCount := rfl

@[simp] theorem countAbort_resetCount : (countAbort p).resetCount = p.resetCount := by
  unfold countAbort; split <;> rfl

@[simp] theorem portEdge_resetCount (e : PortEdge) : (portEdge p e).resetCount = p.resetCount := by
  unfold portEdge; split <;> (try split) <;> simp

@[simp] theorem portEdges_resetCount (es : List PortEdge) : (portEdges es p).resetCount = p.resetCount :=
  portEdges_keeps (P := fun q => q.resetCount = p.resetCount) (fun q e h _ => (portEdge_resetCount q e).trans h) es p rfl

@[simp] theorem endedAnswer_resetCount : (endedAnswer p).resetCount = p.resetCount := by
  unfold endedAnswer; split <;> rfl

@[simp] theorem received_resetCount (bits : List Bool) : (received bits p).resetCount = p.resetCount := endedAnswer_resetCount p

@[simp] theorem startSending_resetCount (bytes : List Byte) (fill : Byte) : (startSending bytes fill p).resetCount = p.resetCount := rfl

@[simp] theorem takeEdges_port_resetCount (es : List PortEdge) : (takeEdges es s).port.resetCount = s.port.resetCount := by
  unfold takeEdges; split <;> simp

/-! ## A frame received -/

/-- The record of a port about to receive a frame. -/
theorem received_sdo (bits : List Bool) : (received bits p).sdo = recordedFrames p := by
  unfold received endedAnswer recordedFrames closeFrame
  cases p.link.frame <;> rfl

@[simp] theorem received_link (bits : List Bool) : (received bits p).link =
    { selLow := true, sckHigh := true, frame := .receiving bits, sdo := some false, read := List.replicate bits.length false } := rfl

@[simp] theorem received_frameFault (bits : List Bool) : (received bits p).frameFault = p.frameFault := by
  unfold received endedAnswer; cases p.link.frame <;> rfl

@[simp] theorem received_lastFrameAborted (bits : List Bool) : (received bits p).lastFrameAborted = p.lastFrameAborted := by
  unfold received endedAnswer; cases p.link.frame <;> rfl

/-- A received frame in one piece: the rest of the port with the new pins and record. -/
theorem received_eq (bits : List Bool) : received bits p = { p with
    link := { selLow := true, sckHigh := true, frame := .receiving bits, sdo := some false, read := List.replicate bits.length false }
    sdo := recordedFrames p } := by
  unfold received endedAnswer recordedFrames closeFrame
  cases p.link.frame <;> rfl

/-- A frame can be completed by a port that has received nothing of another one. -/
theorem canReceive_of_not_receiving (bits : List Bool) (h : ∀ got, p.link.frame ≠ .receiving got) : canReceive bits p = true := by
  unfold canReceive; split
  · rename_i got hg; exact absurd hg (h got)
  · rfl

end Sys2Proof.Machine
end

