-- ==== Sys2Proof/Tests/Slice0.lean ====
section
/-! SUPPORT. Tests: worked values of the manual, the checks on ill-formed commands, single steps, and a state that meets the hypotheses of
each statement that has some. -/

namespace Sys2Proof.Tests

set_option Elab.async false

open Sys2Proof.Machine

/-! ## Worked values -/

/-- R3: "the check computed over the nine bytes 0x31, 0x32, … 0x39 is 0x29B1". -/
theorem test_crc16_reference : crc16 [0x31, 0x32, 0x33, 0x34, 0x35, 0x36, 0x37, 0x38, 0x39] = 0x29B1 := by decide +kernel

/-- R176: "the CRC computed over the nine bytes 0x31, 0x32, … 0x39 is 0xF4". -/
theorem test_crc8_reference : crc8 [0x31, 0x32, 0x33, 0x34, 0x35, 0x36, 0x37, 0x38, 0x39] = 0xF4 := by decide +kernel

/-- The Conditions that hold on a Compare, in the order of R56. -/
def holding (c : Compare) (data : List Byte) : List Bool :=
  [.eq, .ne, .ult, .uge, .ugt, .ule, .lt, .ge, .gt, .le].map fun x => compareHolds { c with condition := x } data

/-- Example A of chapter 4. -/
theorem test_compare_example_A :
    compareFlags ⟨1, 4, 2, 0x0000FFFF, 0x00001300, .eq⟩ [0, 0, 0, 0, 0x34, 0x12] = ⟨false, true, true, false⟩ ∧
    holding ⟨1, 4, 2, 0x0000FFFF, 0x00001300, .eq⟩ [0, 0, 0, 0, 0x34, 0x12] =
      [false, true, true, false, false, true, true, false, false, true] := by decide +kernel

/-- Example B. -/
theorem test_compare_example_B :
    compareFlags ⟨1, 0, 1, 0xFFFFFFFF, 0x00000080, .eq⟩ [0x7F] = ⟨false, true, true, true⟩ ∧
    holding ⟨1, 0, 1, 0xFFFFFFFF, 0x00000080, .eq⟩ [0x7F] =
      [false, true, true, false, false, true, false, true, true, false] := by decide +kernel

/-- Example C. -/
theorem test_compare_example_C :
    compareFlags ⟨1, 0, 2, 0x0000FFFF, 0x00000001, .eq⟩ [0x00, 0x80] = ⟨false, false, false, true⟩ ∧
    holding ⟨1, 0, 2, 0x0000FFFF, 0x00000001, .eq⟩ [0x00, 0x80] =
      [false, true, false, true, true, false, true, false, false, true] := by decide +kernel

/-- Example D: the Operand is not masked. -/
theorem test_compare_example_D :
    compareHolds ⟨1, 8, 4, 0x0000FFFF, 0x12340005, .eq⟩ (List.replicate 8 0 ++ [0x05, 0x00, 0x00, 0x80]) = false ∧
    compareHolds ⟨1, 8, 4, 0x0000FFFF, 0x00000005, .eq⟩ (List.replicate 8 0 ++ [0x05, 0x00, 0x00, 0x80]) = true := by decide +kernel

/-- Example E: Offset 60 and Width 4 on 63 and on 64 bytes. -/
theorem test_compare_example_E :
    compareHolds ⟨1, 60, 4, 0, 0, .eq⟩ (List.replicate 63 0) = false ∧
    compareHolds ⟨1, 60, 4, 0, 0, .eq⟩ (List.replicate 64 0) = true := by decide +kernel

/-- A Fill Pattern of 0 to 15. -/
def counting : Table Byte 16 := ⟨[0, 1, 2, 3, 4, 5, 6, 7, 8, 9, 10, 11, 12, 13, 14, 15], rfl⟩

/-- R96: the reads at 0x00040106 and 0x0004010E of section 6.4. -/
theorem test_fill_examples :
    fillData 0x00040106 4 { State.reset with fill := counting } = [6, 7, 8, 9] ∧
    fillData 0x0004010E 4 { State.reset with fill := counting } = [14, 15, 0, 1] := by decide +kernel

/-! ## The smoke test of the operands: each check refuses a term, and takes its neighbours -/

theorem test_credit_counts_outside_1_to_16_refused :
    ([0, 17].all fun n => !(Instr.farRequestCredit n).wellFormed && !(Instr.nearResponseCredit n).wellFormed) = true ∧
    ([1, 16].all fun n => (Instr.farRequestCredit n).wellFormed && (Instr.nearResponseCredit n).wellFormed) = true := by decide

/-- The first bits of a command, one byte after another, the rest 0. -/
def cut (cmd : MgmtCommand) (n : Nat) : List Bool := (bytesBits (codeOf cmd :: List.replicate 53 0)).take n

/-- A STATUS frame has two bytes: 16 bits complete its check. LOAD_RULE has 54. -/
theorem test_whole_frame_is_no_abort :
    (Instr.frameAbort (cut .status 16) []).wellFormed = false ∧ (Instr.frameAbort (cut .status 15) []).wellFormed = true ∧
    (Instr.frameAbort (cut .loadRule 432) []).wellFormed = false ∧ (Instr.frameAbort (cut .loadRule 431) []).wellFormed = true ∧
    (Instr.frameAbort (byteBits 0x73) []).wellFormed = false ∧ (Instr.frameAbort [] []).wellFormed = true := by decide +kernel

theorem test_known_code_is_no_bad_command :
    (Instr.badCommand 0x01 []).wellFormed = false ∧ (Instr.badCommand 0x72 []).wellFormed = false ∧
    (Instr.badCommand 0x00 []).wellFormed = true ∧ (Instr.badCommand 0x73 []).wellFormed = true := by decide

/-- What the checks refuse, the two meanings refuse by name. -/
theorem test_ill_formed_commands_are_refused :
    exec (.frameAbort (cut .status 16) []) State.reset = .refused .illFormed ∧
    exec (.badCommand 0x01 []) State.reset = .refused .illFormed := ⟨rfl, rfl⟩

/-! ## Small states -/

/-- A read request with its check. -/
def rd (src : SourceId) (tag : Tag) (addr : Addr) (len : Byte) : RequestPacket :=
  reqSealed { kind := kindRd, attr := ⟨true, true⟩, source := src, spare := 0, tag := tag, length := len, address := addr, data := [],
              check := 0 }

/-- A write request with its check. -/
def wr (src : SourceId) (addr : Addr) (data : List Byte) : RequestPacket :=
  reqSealed { kind := kindWr, attr := ⟨true, true⟩, source := src, spare := 0, tag := 0, length := BitVec.ofNat 8 data.length,
              address := addr, data := data, check := 0 }

/-- An OK response with its check. -/
def rsp (src : SourceId) (tag : Tag) (data : List Byte) : ResponsePacket :=
  rspSealed { status := statusOk, attr := ⟨false, false⟩, source := src, spare := 0, tag := tag, length := BitVec.ofNat 8 data.length,
              data := data, check := 0 }

/-- The edges that read `n` bytes of an answer and end the frame. -/
def reading (n : Nat) : List PortEdge := clockOut (List.replicate (8 * n) false) ++ [.selRise]

/-- A frame's tail with the check that matches, and the edges that follow. -/
def tailOf (cmd : MgmtCommand) (params : List Byte) (after : List PortEdge) : FrameTail := ⟨crc8 (codeOf cmd :: params), after⟩

/-- A VALID ring of 16 slots at 0x8000 with the Producer and Consumer Words before it. -/
def ring16 (mode : RingMode) (guard : Bool) : RingController :=
  { State.clearedRing with config :=
    { base := 0x8000, slots := 16, producerAddr := 0x7000, consumerAddr := 0x7004, mode := mode, guard := guard, state := .valid } }

/-- The part in ACTIVE with that ring and one credit on each port. -/
def running (mode : RingMode) (guard : Bool) : State :=
  { State.reset with
    ctrl := { State.reset.ctrl with mode := .active }
    ring := ring16 mode guard
    near := { State.reset.near with credits := 1 }
    far := { State.reset.far with credits := 1 } }

/-- `s` with a request at the head of the Request Buffer. -/
def withHead (p : RequestPacket) (s : State) : State :=
  { s with near := { s.near with buffer := [⟨p, classify p⟩], granted := 7 } }

/-- `s` with a response at the head of the Response Buffer. -/
def withResponse (p : ResponsePacket) (s : State) : State :=
  { s with far := { s.far with buffer := [⟨p, isDamagedResponse p⟩], granted := 7 } }

/-- A rule on [0x1000, 0x1FFF] for both Kinds and every class, with the Actions and pattern given. -/
def watching (actions : Actions) (pattern : List PatternTerm) : Rule :=
  { state := .enabled, useCount := 0, defn :=
    { base := 0x1000, limit := 0x1FFF, windowMode := .overlap, kindRd := true, kindWr := true, classes := 0xFF, minLength := 1,
      pattern := pattern, compare := none, actions := actions, depth := .withData } }

/-- `s` with rule 0 in force. -/
def withRule (r : Rule) (s : State) : State := { s with rules := s.rules.set 0 r }

/-- An entry for a read of four bytes at 0x1000 by source 1 with tag 2. -/
def entry (phase : Phase) : OrtEntry :=
  { source := 1, tag := 2, address := 0x1000, length := 4, cls := 0, attr := ⟨true, true⟩, pendingRules := 0, noData := 0,
    orphaned := false, phase := phase, requestTime := some 0, limit := some 5, arrivalTime := none, earlyArrival := false }

/-- A record of a write of one byte. -/
def record : Record :=
  { seq := 0, time := 0, source := 1, tag := 0, cls := 0, kind := .wr, attr := ⟨true, true⟩, address := 0x1000, length := 1,
    outcome := .forwarded, matchSet := 1, fire := false, post := false, held := false, latency := 0, heldTicks := 0, dataCount := 1,
    data := [0x55] }

/-- What a request that is sent carries on. -/
def passing (p : RequestPacket) : Forwarding := { packet := p, counted := true, tracked := false }

/-! ## Single steps -/

/-- Section 4.6, "one write, resolved": rule 2 blocks the write. It is dropped, its bin and Blocked count one, RULE_SIGNAL carries
{2}, and no record is made. -/
theorem test_write_blocked_as_in_section_4_6 :
    (match exec .requestAtHead (withHead (wr 1 0x00040038 (List.replicate 8 0)) { running .lossy false with
        sources := (running .lossy false).sources.set 3 ⟨true, 1, 1, false, false, 0⟩
        rules := (running .lossy false).rules.set 2 { state := .enabled, useCount := 0, defn :=
          { RuleDef.empty with base := 0x00040000, limit := 0x00040FFF, kindWr := true, classes := 3, minLength := 1,
                               actions := ⟨false, true, true⟩ } } }) with
      | .next t => (t.near.buffer.length, t.near.granted, countersAt t 2, t.events.signalRules, t.ring.queue.length,
          t.counters.globals.refused)
      | _ => (9, 9, RuleCounters.zero, 0, 9, 0)) =
    (0, 8, { RuleCounters.zero with bin5to8 := 1, blocked := 1 }, 4, 0, 1) := by decide +kernel

/-- A captured write enters the queue in slot 0 and is offered. -/
theorem test_write_captured :
    (match exec .requestAtHead (withRule (watching ⟨true, false, false⟩ []) (withHead (wr 1 0x1000 [0x55]) (running .lossy false))) with
      | .next t => (t.ring.queue, t.near.head)
      | _ => ([], .fresh)) = ([⟨record, 0⟩], .ready (passing (wr 1 0x1000 [0x55]))) := by decide +kernel

/-- A read gets its entry. -/
theorem test_read_tracked :
    (match exec .ortEntryCreate { withHead (rd 1 2 0x1000 4) (running .lossy false) with
        near := { (withHead (rd 1 2 0x1000 4) (running .lossy false)).near with
          head := .waitOrt ⟨rd 1 2 0x1000 4, 0, 0, 0, false⟩ } } with
      | .next t => t.ort
      | _ => []) = [{ entry .created with requestTime := none, limit := none }] := by decide +kernel

/-- SET_RING reads PENDING, presents the Producer Word write of 0, and is pending in the slot. -/
theorem test_set_ring_pending :
    (match exec (.setRing ⟨0x8000, 16, 0x7000, 0x7004, 0, 1⟩
        (tailOf .setRing (ringParamBytes ⟨0x8000, 16, 0x7000, 0x7004, 0, 1⟩) (reading 3))) State.reset with
      | .next t => (t.ring.config.state, t.ring.writer, t.port.slot, t.port.sdo)
      | _ => (.invalid, .idle, .idle, [])) =
    (.pending, .producer (reqSealed
      { kind := 2, attr := ⟨false, false⟩, source := 63, spare := 0, tag := 0, length := 4, address := 0x7000, data := [0, 0, 0, 0],
        check := 0 }) true, .pending, [List.replicate (8 * 18) false ++ bytesBits [0x00, 0x01, crc8 [0x01]]]) := by decide +kernel

/-- STATUS right after power-on. -/
theorem test_status_after_power_on :
    (match exec (.status (tailOf .status [] (reading 16))) State.reset with
      | .next t => t.port.sdo
      | _ => []) = [bytesBits ([0, 0] ++ [0, 0] ++ [0, 0, 0, 0, 0, 0, 0, 0, 0, 0, 0, 1] ++
        [crc8 [0, 0, 0, 0, 0, 0, 0, 0, 0, 0, 0, 0, 1], 0xFF])] := by
  decide +kernel

/-- Section 11.11, step 5: SEL_n rises after four bits of the command byte. SDO carried 0 for the bits clocked. -/
theorem test_frame_aborted_after_four_bits :
    (match exec (.frameAbort [false, false, false, false] []) State.reset with
      | .next t => t.port
      | _ => State.reset.port) =
    { State.reset.port with frameFault := 1, lastFrameAborted := true, sdo := [[false, false, false, false]] } := by decide +kernel

/-- R178: the code 0x73 reads 0x03 from the byte after it on. -/
theorem test_unknown_code_reads_bad_command :
    (match exec (.badCommand 0x73 (reading 2)) State.reset with
      | .next t => t.port.sdo
      | _ => []) = [bytesBits [0x00, 0x03, 0x03]] := by decide +kernel

/-- R182: a frame cut by an LRST_n continues; one cut by an RST_n is discarded and is no fault. With SEL_n low at the release the port waits:
SCK does nothing, and SDO is high impedance until SEL_n has risen and fallen. -/
theorem test_frame_across_resets :
    let bits := frameBits .status [] (crc8 [0x01])
    let begun : State := match exec (.linkUp ⟨.selFall :: clockIn (bits.take 5), ⟨false, false, false⟩⟩) State.reset with
      | .next t => t
      | _ => State.reset
    (match exec .linkReset begun with
      | .next t => (t.port.link.frame, match exec (.status (tailOf .status [] (reading 1))) t with
        | .next u => u.port.sdo
        | _ => [])
      | _ => (.absent, [])) = (.receiving (bits.take 5), [List.replicate 24 false]) ∧
    (match exec .boardReset begun with
      | .next t => match exec (.linkUp ⟨clockIn [true], ⟨true, true, true⟩⟩) t with
        | .next u => (u.port.link, u.port.frameFault, (portEdges (clockIn [true]) u.port).link.sdo,
            (portEdges [.selRise, .selFall] u.port).link.sdo)
        | _ => (SerialLink.idle, 9, none, none)
      | _ => (SerialLink.idle, 9, none, none)) =
      ({ SerialLink.idle with selLow := true }, 0, none, some false) := by decide +kernel

/-- No row of the table gives bits, so no word spells a command. -/
theorem test_no_word_spells_a_command : decodeTableWord 8 1 = none ∧ State.reset.withFetchWord 8 1 = State.reset := ⟨rfl, rfl⟩

/-! ## Witnesses: states that meet the hypotheses of the statements, clause by clause, at the bounds of each range -/

/-- Whether the command answers a next state, and that state. -/
def answersNext (c : Instr) (s : State) : Bool := match exec c s with | .next _ => true | _ => false
def after (c : Instr) (s : State) : State := match exec c s with | .next t => t | _ => s

/-- `s` with a position for the head request, or for the head response. -/
def atPosition (h : RequestHead) (s : State) : State := { s with near := { s.near with head := h } }
def atResponsePosition (h : ResponseHead) (s : State) : State := { s with far := { s.far with head := h } }

/-- LOAD_RULE parameters with eight terms and a Compare, at the largest values R69 takes; `condition` is the Condition code. -/
def fullRule (condition : Byte) : RuleParams :=
  { index := 31, base := 0xFFFFFFFF, limit := 0xFFFFFFFF, windowMode := 1, kinds := 3, classes := 0xFF, minLength := 64, actions := 7,
    depth := 1, termCount := 8, terms := Table.fill 8 ⟨63, 0xFF, 0x5A⟩, compare := 0xFF, compareOffset := 60, compareWidth := 4,
    fieldMask := 0xFFFFFFFF, operand := 1, condition := condition }

def ringParams : RingParams := ⟨0xFFFFF800, 16, 0x7000, 0x7004, 1, 1⟩

/-- The frame of a command with the check that matches. -/
def framed (f : FrameTail → Instr) : Instr :=
  match frameOf (f ⟨0, []⟩) with
  | some (cmd, params, _) => f (tailOf cmd params [])
  | none => f ⟨0, []⟩

/-- One frame of each command, with operands at the bounds of their ranges. -/
def frames : List (FrameTail → Instr) :=
  [.status, .setMode 1, .lockGuards, .loadSource 15 63 7 3, .clearSource 15, .readSource 15 1, .loadRule (fullRule 9),
   .enableRule 31, .disableRule 31, .clearRule 31, .readRule 31, .readCounters 31, .readGlobals, .setRing ringParams, .ringStatus,
   .setFill counting, .setTimers 1 65535 63, .loadStage 3 1 1 16777215 1, .setSequencer 4 1 255 3, .seqStart, .seqStop,
   .seqStatus, .readSnapshot, .clearSnapshot, .takeEvent, .endEvent, .setEventEnable 1 0 1 0 1]

/-- Every statement about a frame that runs: StatusAndModeCommands, SourceCommands, RuleCommands, CounterAndSettingCommands,
RingCommands, SequencerCommands, EventCommands. -/
theorem test_witness_frames_run : (frames.all fun f => runs (framed f) State.reset) = true ∧ frames.length = 27 := by decide +kernel

theorem test_witness_frames_answered :
    (frames.all fun f => (frameOf (framed f)).isSome && answersNext (framed f) State.reset) = true ∧ State.reset.pins.power = false ∧
    State.reset.pins.board = false := by decide +kernel

/-- BrokenFramesExecuteNothing: a frame cut after its first bit and before its last, no bit, a code that names no command, a bad check, and
a port that receives another frame or is in hard reset. -/
theorem test_witness_broken_frames :
    ([cut .status 1, cut .loadRule 431, []].all fun bits => portReady bits State.reset && reception bits == .incomplete) = true ∧
    (∀ cmd, codeOf cmd ≠ 0x73) ∧ portReady (byteBits 0x73) State.reset = true ∧ crc8 [codeOf .status] ≠ (0x00 : Byte) ∧
    portReady (cut .status 9) (takeEdges (.selFall :: clockIn [true]) State.reset) = false ∧
    portReady [] { State.reset with pins := ⟨true, false, false⟩ } = false ∧ reception (cut .status 16) ≠ .incomplete := by
  refine ⟨by decide +kernel, fun cmd => ?_, by decide +kernel, by decide +kernel, by decide +kernel, by decide, by decide +kernel⟩
  cases cmd <;> decide

/-- EveryFrameIsAnswered and SerialLinkEdges: a frame read to its end; pins at rest, in a frame with SCK low and high, sending with bits left
and with none, and with SEL_n low but no frame. -/
def portAt (l : SerialLink) : MgmtPort := { State.reset.port with link := l }

theorem test_witness_serial_link :
    (frameOf (.status (tailOf .status [] (reading 1)))).isSome = true ∧
    portReady (frameBits .status [] (crc8 [0x01])) State.reset = true ∧
    State.reset.port.link = SerialLink.idle ∧ State.reset.port.link.sckHigh = false ∧ 15 < (frameBits .status [] 0).length ∧
    reception (cut .loadRule 430 ++ [true]) = .incomplete ∧
    (portAt ⟨true, true, .sending [] 0xFF, some true, [true]⟩).link.frame = .sending [] 0xFF ∧
    (portAt ⟨true, false, .absent, none, []⟩).link.read = [] ∧
    (after .powerOn State.reset).pins.power = true := by decide +kernel

theorem test_witness_WhatEveryCommandKeeps :
    (answersNext .timeTick State.reset = true ∧ (after .timeTick State.reset).time ≠ State.reset.time) ∧
    (after (framed (.setTimers 1 1 0)) State.reset).timers ≠ State.reset.timers ∧
    (after (framed (.setFill counting)) State.reset).fill ≠ State.reset.fill ∧
    (after (framed .clearSnapshot) { State.reset with seqr := State.clearedSequencer (some ⟨0, record⟩) }).seqr.snapshot
      ≠ some ⟨0, record⟩ := by decide +kernel

/-- HardResetsRestore and LinkResetClears: no input asserted; each input asserted already. -/
theorem test_witness_resets :
    State.reset.pins = ⟨false, false, false⟩ ∧ (after .powerOn State.reset).pins.power = true ∧
    ((after .boardReset State.reset).pins.power = false ∧ (after .boardReset State.reset).pins.board = true) ∧
    (after .linkReset State.reset).pins = ⟨false, false, true⟩ := by decide

/-- LoadedRuleReadsBack and RuleCommands: parameters that R69 takes at the largest values; and a Condition code it refuses. -/
theorem test_witness_LoadedRuleReadsBack : (ruleDefOf (fullRule 9)).isSome = true := by decide +kernel

theorem test_witness_ConditionsReadNumbers :
    (fullRule 10).compare ≠ 0 ∧ 9 < (fullRule 10).condition.toNat := by decide +kernel

/-- WindowCoversBytes and FillByAddress: the last 64 bytes of the address space; a window of one byte, and the whole space. -/
theorem test_witness_windows :
    classify (rd 1 2 0xFFFFFFC0 64) = .wellFormed ∧ classify (rd 1 2 0xFFFFFFFF 1) = .wellFormed ∧
    (watching ⟨true, false, false⟩ []).defn.windowMode = .overlap ∧
    ({ RuleDef.empty with windowMode := .inside, limit := 0xFFFFFFFF } : RuleDef).base.toNat ≤ 0xFFFFFFFF := by decide +kernel

/-- A Source Table with one entry, the last, that rewrites both flags. -/
def listed : State := { State.reset with sources := State.reset.sources.set 15 ⟨true, 1, 7, true, true, 0⟩ }

theorem listed_at (i : Nat) (h : i < 16) : sourceAt listed i = if 15 = i then ⟨true, 1, 7, true, true, 0⟩ else SourceEntry.empty := by
  refine (Table.get_set State.reset.sources 15 i _ _ (by decide)).trans ?_
  rw [show State.reset.sources.get i SourceEntry.empty = SourceEntry.empty from Table.get_fill _ _ _ h]

theorem test_witness_SourceGivesClassAndRewrite :
    SourcesSound listed ∧ (sourceAt listed 15).valid = true ∧
    (∀ i, i < 16 → (sourceAt listed i).valid = true → (sourceAt listed i).sourceId ≠ 2) ∧
    rewrittenAttr 1 ⟨true, true⟩ listed ≠ ⟨true, true⟩ ∧ rewrittenAttr 1 ⟨false, false⟩ listed = ⟨false, false⟩ := by
  refine ⟨⟨?_, ?_, ?_⟩, by decide, ?_, by decide, by decide⟩
  · intro i j hi hj; rw [listed_at i hi, listed_at j hj]
    by_cases h1 : 15 = i
    · by_cases h2 : 15 = j
      · intros; omega
      · rw [if_neg h2]; intro _ hv; cases hv
    · rw [if_neg h1]; intro hv; cases hv
  · intro i hi; rw [listed_at i hi]; by_cases h : 15 = i <;> simp [h, SourceEntry.empty]
  · intro i hi; rw [listed_at i hi]; by_cases h : 15 = i <;> simp [h]
  · intro i hi; rw [listed_at i hi]; by_cases h : 15 = i <;> simp [h, SourceEntry.empty]

/-- Seven packets wait, so there is room for one more; and eight, so there is none. -/
def crowded (n : Nat) (s : State) : State :=
  { s with near := { s.near with buffer := List.replicate n ⟨rd 1 2 0x1000 4, .wellFormed⟩, granted := 8 - n },
           far := { s.far with buffer := List.replicate n ⟨rsp 1 2 [0], false⟩, granted := 8 - n } }

/-- ArrivalsBuffered: a write that ends just before the Consumer Word, one that starts just after it; phases; no room. -/
theorem test_witness_ArrivalsBuffered :
    ((crowded 7 (running .lossy false)).linkUp = true ∧ (crowded 7 (running .lossy false)).near.buffer.length < 8 ∧
      (crowded 7 (running .lossy false)).far.buffer.length < 8) ∧
    ¬ (0x7004 < (wr 1 0x7000 [0, 0, 0, 0]).address.toNat + (wr 1 0x7000 [0, 0, 0, 0]).length.toNat) ∧
    ¬ ((wr 1 0x7008 [0]).address.toNat < 0x7004 + 4) ∧
    (entry .created).phase = .created ∧ (entry .timing).phase = .timing ∧ isExpired (entry (.expired record)) = true ∧
    8 ≤ (crowded 8 State.reset).near.buffer.length ∧ 8 ≤ (crowded 8 State.reset).far.buffer.length ∧
    (after .linkReset State.reset).linkUp = false := by decide +kernel

/-- ConsumerUpdateTaken: a candidate equal to P; and a write that covers one byte of the Consumer Word. -/
def published : State := { running .lossy false with ring := { ring16 .lossy false with p := 16, c := 0 } }

theorem test_witness_ConsumerUpdateTaken :
    (published.linkUp = true ∧ published.near.buffer.length < 8 ∧ published.ring.config.state = .valid ∧
      holdOf .request published = none ∧ holdOf .response published = none) ∧
    holdOf .request (atPosition (.held ⟨record, 0, 100⟩ .drop) published) ≠ none ∧
    ([wr 1 0x7004 [16, 0, 0, 0], wr 1 0x7000 [0, 0, 0, 0, 16], wr 1 0x7007 [0]].all fun p =>
      classify p == .wellFormed && p.kind == kindWr && decide (p.address.toNat < 0x7004 + 4) &&
        decide (0x7004 < p.address.toNat + p.length.toNat)) = true ∧
    (BitVec.ofNat 16 (leNat (((wr 1 0x7004 [16, 0, 0, 0]).data.drop 0).take 2)) - published.ring.c).toNat ≤
      (published.ring.p - published.ring.c).toNat := by decide +kernel

/-- HeldReleasedWithRecord: held items in a full ring of 16 slots; C moves by 1, and not at all. -/
def full : State := { running .lossless false with ring := { ring16 .lossless false with p := 16, c := 0, seq := 2 } }
def heldAt (seq : BitVec 32) : Hold := ⟨{ record with seq := seq }, 0, 100⟩
def nextUp : AfterCapture := .forward (passing (wr 1 0x1000 [0x55]))

theorem test_witness_HeldReleasedWithRecord :
    (holdOf .response (atPosition (.held (heldAt 0) nextUp) full) = none ∧
      holdOf .request (atResponsePosition (.held (heldAt 0) (rsp 1 2 [0])) full) = none) ∧
    (reserved { full with ring := { full.ring with c := 1 } } + 1 = full.ring.config.slots ∧
      reserved { full with ring := { full.ring with c := 1 } } < full.ring.config.slots ∧ full.ring.config.slots ≤ reserved full) ∧
    (full.ring.queue.length < 4 ∧ waitingRecords full = 0 ∧
      ¬ ({ full with ring := { full.ring with queue := List.replicate 4 ⟨record, 0⟩ } } : State).ring.queue.length < 4) ∧
    reserved { full with ring := { full.ring with c := 2 } } + 2 ≤ full.ring.config.slots ∧ ¬ full.ring.queue.length + 4 < 3 ∧
    createdBefore full.ring.seq 1 0 = false ∧ createdBefore full.ring.seq 0 1 = true := by decide +kernel

theorem test_witness_LinkComesUpAndCountsCredits :
    (1 ≤ 16 ∧ 16 ≤ 16) ∧ State.reset.linkUp = true ∧ (after .linkReset State.reset).linkUp = false := by decide

/-- What stands at the head, for the statements about it. -/
def damagedWr : RequestPacket := { wr 1 0x1000 [0x55] with check := ~~~ (wr 1 0x1000 [0x55]).check }
def headOf (p : RequestPacket) : BufferedRequest := ⟨p, classify p⟩

theorem test_witness_BypassPassesPackets :
    atHead (headOf damagedWr) (withHead damagedWr State.reset) ∧ State.reset.ctrl.mode = .bypass ∧
    responseAtHead ⟨rsp 1 2 [0], false⟩ (withResponse (rsp 1 2 [0]) State.reset) ∧ findLive 1 2 State.reset = none := by decide +kernel

theorem test_witness_DamagedRequests :
    atHead (headOf damagedWr) (withHead damagedWr (running .lossy false)) ∧ (running .lossy false).ctrl.mode ≠ .bypass ∧
    (headOf damagedWr).cls = .damaged := by decide +kernel

theorem test_witness_MalformedRequests :
    ([rd 1 2 0x1000 65, wr 1 0x103F [0, 0]].all fun p => classify p == .malformed) = true ∧
    atHead (headOf (rd 1 2 0x1000 65)) (withHead (rd 1 2 0x1000 65) (running .lossy false)) := by decide +kernel

/-- A read that no entry's key meets, one whose key an entry holds, and a write, at the head in ACTIVE. -/
theorem test_witness_reads_at_head :
    wellFormedHead kindRd (headOf (rd 1 2 0x1000 4)) (withHead (rd 1 2 0x1000 4) (running .lossy false)) ∧
    keyInOrt 1 2 (running .lossy false) = false ∧
    (∃ e ∈ ({ withHead (rd 1 2 0x1000 4) (running .lossy false) with ort := [entry .timing] } : State).ort, e.source = 1 ∧ e.tag = 2) ∧
    meets (candidates .rd 0 (rd 1 2 0x1000 4) (running .lossy false) &&& ~~~ dataRules (running .lossy false))
      (blockRules (running .lossy false)) = false := by
  refine ⟨by decide +kernel, by decide, ⟨entry .timing, by simp, rfl, rfl⟩, by decide +kernel⟩

theorem test_witness_ReadRefusedEarly :
    meets (candidates .rd 0 (rd 1 2 0x1000 4) (withRule (watching ⟨false, true, false⟩ []) (running .lossy false)) &&&
        ~~~ dataRules (withRule (watching ⟨false, true, false⟩ []) (running .lossy false)))
      (blockRules (withRule (watching ⟨false, true, false⟩ []) (running .lossy false))) = true ∧
    (List.replicate 3 (rsp 1 2 [0])).length < 4 ∧ 4 ≤ (List.replicate 4 (rsp 1 2 [0])).length := by decide +kernel

/-- RingGuardDropsIntrusion and WriteResolved: the first and the last byte of the ring area, and the bytes on either side. -/
theorem test_witness_writes_at_head :
    wellFormedHead kindWr (headOf (wr 1 0x8000 [0])) (withHead (wr 1 0x8000 [0]) (running .lossy true)) ∧
    ([wr 1 0x8000 [0], wr 1 0x87FF [0], wr 1 0x7003 [0]].all fun p => intrudes p (ring16 .lossy true).config) = true ∧
    ([wr 1 0x7FFF [0], wr 1 0x8800 [0], wr 1 0x7004 [0]].all fun p => !intrudes p (ring16 .lossy true).config) = true ∧
    0 < (ring16 .lossy true).config.slots ∧ (ring16 .lossy false).config.guard = false := by decide +kernel

def waitingRead : WaitingRead := ⟨rd 1 2 0x1000 4, 0, 1, 0, false⟩

theorem test_witness_EntryCreated :
    (atPosition (.waitOrt waitingRead) (withHead (rd 1 2 0x1000 4) (running .lossy false))).near.buffer.head? =
      some (headOf (rd 1 2 0x1000 4)) ∧
    (List.replicate 31 (entry .created)).length < 32 ∧ 32 ≤ (List.replicate 32 (entry .created)).length := by decide +kernel

/-- FrozenResolution, ActiveResolution, FiringRecorded, SequencerTakesMatch: outside ACTIVE; in OFF; and in a train of one stage that
asks for rule 0 once, where {0} fires. -/
def armed : State :=
  { running .lossy false with seqr := { State.clearedSequencer none with
      stages := (Table.fill 4 StageRecord.cleared).set 0 ⟨1, 1, 0, .restart⟩, state := .run 0 0 none } }

theorem test_witness_resolutions :
    State.reset.ctrl.mode ≠ .active ∧ armed.ctrl.mode = .active ∧
    takeMatch 1 0 (running .lossy false).seqr = some .off ∧ takeMatch 1 0 armed.seqr = none ∧
    takeMatch 2 0 armed.seqr = some (.run 0 0 none) ∧ meets 1 (captureRules (withRule (watching ⟨true, false, false⟩ []) armed)) = true ∧
    meets 1 (captureRules armed) = false ∧ inPost armed.seqr.state = false := by decide +kernel

theorem test_witness_StrayDelivered :
    responseAtHead ⟨rsp 1 2 [0], false⟩ (withResponse (rsp 1 2 [0]) (running .lossy false)) ∧
    (∀ e ∈ [entry (.expired record)], e.source = 1 → e.tag = 2 → isExpired e = true) := by decide +kernel

/-- OrphanRestored and TrackedReadResolved: a response whose entry is orphaned, and one whose entry is tracked; another Attr. -/
theorem test_witness_responses_find_entries :
    findLive 1 2 { running .lossy false with ort := [{ entry .answered with orphaned := true }] } =
      some { entry .answered with orphaned := true } ∧
    findLive 1 2 { running .lossy false with ort := [entry .answered] } = some (entry .answered) ∧
    (rsp 1 2 [0]).attr ≠ ⟨true, true⟩ ∧ latencyOf { entry .answered with arrivalTime := some 7 } = 7 ∧
    latencyOf { entry .answered with arrivalTime := some 7, earlyArrival := true } = 0 := by decide +kernel

theorem test_witness_WaitingRecordAdmitted :
    firstWaiter 2 (waiters { atPosition (.waitRoom { record with seq := 1 } nextUp) full with ort := [entry (.expired record)] }) =
      some (.entry record (entry (.expired record))) ∧
    (List.replicate 3 (QueuedRecord.mk record 0)).length < 4 ∧ waiters full = [] := by decide +kernel

/-- ReadExpires: an entry whose limit of 5 has just passed, and at Time 4 not. -/
theorem test_witness_ReadExpires :
    findLive 1 2 { running .lossy false with ort := [entry .timing], time := 5 } = some (entry .timing) ∧ Due 5 (entry .timing) ∧
    ¬ Due 4 (entry .timing) ∧ (entry .timing).orphaned = false := by
  refine ⟨by decide +kernel, ⟨rfl, 0, 5, rfl, rfl, by decide⟩, ?_, rfl⟩
  rintro ⟨-, start, limit, h1, h2, h3⟩
  cases h1; cases h2; exact absurd h3 (by decide)

theorem test_witness_RequestGranted :
    ((running .lossy false).linkUp = true ∧ 0 < (running .lossy false).far.credits ∧ (running .lossy false).ring.writer = .idle) ∧
    (entry .created).phase = .created ∧ { entry .answered with requestTime := none }.requestTime = none := by decide

/-- WriterAdvances: each position of the writer, alone; nothing offered; no credit. -/
theorem test_witness_WriterAdvances :
    (ring16 .lossy false).writer = .idle ∧
    ([Writer.first, .second, (.producer · false), (.producer · true)].all fun w =>
      presentedPacket (w (wr 63 0x8000 [0])) == some (wr 63 0x8000 [0])) = true ∧
    offeredRequest (running .lossy false) = none ∧ 0 < (running .lossy false).far.credits ∧ State.reset.far.credits = 0 := by
  decide +kernel

theorem test_witness_ResponseGranted :
    (atResponsePosition (.ready (rsp 1 2 [0])) (running .lossy false)).near.refusals = [] ∧
    0 < (running .lossy false).near.credits ∧ (∀ q, (running .lossy false).far.head ≠ .ready q) ∧
    State.reset.near.credits = 0 := by
  refine ⟨rfl, by decide, ?_, rfl⟩
  intro q; simp [running, State.reset, State.clearedFar]

theorem test_witness_HoldRunsOut :
    (heldAt 0).limit.toNat ≤ ((100 : Ticks) - (heldAt 0).start).toNat ∧ ¬ (heldAt 0).limit.toNat ≤ ((99 : Ticks) - (heldAt 0).start).toNat ∧
    holdOf .request (atPosition (.held (heldAt 0) nextUp) full) = some (heldAt 0) := by decide

/-- TimeAndFreeze: a window that runs, MARK high, a freeze request in flight in ACTIVE and in BYPASS, and none of them. -/
theorem test_witness_TimeAndFreeze :
    (setSeqState (.run 0 0 (some 0)) State.reset).seqr.state = .run 0 0 (some 0) ∧
    ({ armed.seqr with markFiredAt := some 0 } : Sequencer).markFiredAt = some 0 ∧
    0 < ({ armed.ctrl with freezeRequests := 1 } : ModeControl).freezeRequests ∧ armed.ctrl.mode = .active ∧
    State.reset.ctrl.mode ≠ .active ∧ State.reset.ctrl.freezeRequests = 0 ∧ State.reset.seqr.markFiredAt = none ∧
    (∀ k progress start, State.reset.seqr.state ≠ .run k progress (some start)) := by
  refine ⟨rfl, rfl, by decide, rfl, by decide, rfl, rfl, ?_⟩
  intro k p q h; cases h

/-- SourceCommands: bounds of each operand, the Guard Lock, and a Source ID listed elsewhere. -/
theorem test_witness_SourceCommands :
    ¬ (15 < (15 : Byte).toNat ∨ 63 < (63 : Byte).toNat ∨ (7 : Byte) = 0 ∨ 7 < (7 : Byte).toNat) ∧ 15 < (16 : Byte).toNat ∧
    63 < (64 : Byte).toNat ∧ 7 < (8 : Byte).toNat ∧ State.reset.ctrl.guardLock = false ∧
    (∃ j, j < 16 ∧ j ≠ 0 ∧ (sourceAt listed j).valid = true ∧ (sourceAt listed j).sourceId = 1) ∧
    ¬ ∃ j, j < 16 ∧ j ≠ 15 ∧ (sourceAt listed j).valid = true ∧ (sourceAt listed j).sourceId = 1 := by
  refine ⟨by decide, by decide, by decide, by decide, rfl, ⟨15, by decide⟩, ?_⟩
  rintro ⟨j, h1, h2, h3, -⟩
  rw [listed_at j h1, if_neg (fun h => h2 h.symm)] at h3
  exact absurd h3 (by decide)

/-- RingCommands: parameters that pass the first check at the top of the address space; in ACTIVE; and while the writer is not IDLE. -/
theorem test_witness_RingCommands :
    (ringConfigOf ringParams).isSome = true ∧ (running .lossy false).ctrl.mode ≠ .bypass ∧ State.reset.ctrl.mode = .bypass ∧
    State.reset.port.slot ≠ .pending ∧ State.reset.ring.queue = [] ∧ waitingRecords State.reset = 0 ∧
    State.reset.ring.writer = .idle ∧
    (after (framed (.setRing ringParams)) State.reset).ring.writer ≠ .idle := by decide +kernel

theorem test_witness_SequencerCommands :
    seqBusy armed.seqr.state = true ∧ seqBusy State.reset.seqr.state = false ∧
    (∃ k, k < State.reset.seqr.settings.stagesInUse ∧ (stageAt State.reset.seqr k).rules = 0) ∧
    (∃ k, k < armed.seqr.settings.stagesInUse ∧ (stageAt armed.seqr k).rules ≠ 0) :=
  ⟨rfl, rfl, ⟨0, by decide, rfl⟩, ⟨0, by decide, by decide⟩⟩

/-- EventCommands: FIRE and STRAY pending with all levels enabled, so FIRE comes first; nothing pending; level 3 alone in service. -/
def signalled : State := { State.reset with events := { raiseEvent .fire 0 (raiseEvent .stray 0 State.reset.events) with levelEnable := 15 } }

theorem test_witness_EventCommands :
    ((eventRecord signalled.events .fire).pending = true ∧ signalled.events.levelEnable.getLsbD (eventLevel .fire) = true ∧
      eventIndex .fire ≤ eventIndex .stray) ∧
    (allSources.all fun x => !(eventRecord State.reset.events x).pending) = true ∧ State.reset.events.inService = 0 ∧
    ((8 : BitVec 4).getLsbD 3 = true ∧ ∀ l, l < 3 → (8 : BitVec 4).getLsbD l = false) ∧ 1 < (2 : Byte).toNat := by decide +kernel

/-- What is left of the hypotheses: StepTakesFront, MatchSetMembers, CountersSaturate, EventsPendAndDriveLine, ActiveResolution in POST,
StatusAndModeCommands and RuleCommands at their bounds. -/
theorem test_witness_bounds :
    State.reset.pending = [] ∧ (31 < 32 ∧ 1 ≤ 1 ∧ 64 ≤ 64) ∧ (bins RuleCounters.zero)[4]? = some (64, 0) ∧
    EventSource.fire ≠ EventSource.stray ∧ (setSeqState (.post 2) armed).seqr.state = .post 2 ∧
    (setSeqState (.post 1) armed).seqr.state = .post 1 ∧ 2 < (3 : Byte).toNat ∧ modeByte .frozen = 2 ∧
    ruleDefOf (fullRule 10) = none ∧ (fullRule 9).index.toNat ≤ 31 := by decide +kernel

/-! ### The invariants hold in a state at work, and a step from it answers -/

/-- Rule 0 waits for the data of one read, its entry in TIMING; a record is queued; a tick is commanded. -/
def working : State :=
  { withRule { watching ⟨true, false, false⟩ [⟨0, 0xFF, 0x5A⟩] with useCount := 1 } (withHead (wr 1 0x1000 [0x55]) (running .lossy false)) with
    ort := [{ entry .timing with pendingRules := 1 }]
    ring := { ring16 .lossy false with queue := [⟨record, 0⟩], seq := 1 }
    pending := [.timeTick] }

theorem test_working_steps : step working = .next { working with time := 1, pending := [] } := rfl

theorem test_witness_BoundsKept : Bounded working := by
  refine ⟨(fun h => nomatch h), fun _ => rfl, ⟨?_, ?_, ?_, ?_⟩, ?_, ?_, ?_, ?_, ?_⟩ <;> decide +kernel

theorem test_working_keys : KeysUnique working := ⟨(fun h => nomatch h), List.pairwise_singleton _ _, trivial⟩

theorem test_witness_UseCountsKept : UseCountsExact working := by
  refine ⟨test_working_keys, ?_, ?_, ?_⟩ <;> decide +kernel

theorem test_witness_RingKept : RingSound working := by
  refine ⟨test_working_keys, ?_, ?_, ?_⟩ <;> decide +kernel

/-- QueueKeepsOrder: a record queued in slot 0, one that waits and one held, in a ring of 16 slots with none free. -/
def ordered : State :=
  { running .lossless false with
    ring := { ring16 .lossless false with p := 14, c := 0, seq := 3, queue := [⟨record, 14⟩] }
    near := { (running .lossless false).near with
      buffer := [⟨wr 1 0x1000 [0x55], .wellFormed⟩], granted := 7, head := .waitRoom { record with seq := 1 } nextUp }
    far := { (running .lossless false).far with
      buffer := [⟨rsp 1 2 [0], false⟩], granted := 7, head := .held (heldAt 2) (rsp 1 2 [0]) } }

theorem all_pairs {r : BitVec 32 → BitVec 32 → Bool} {as bs : List (BitVec 32)} (h : (as.all fun a => bs.all (r a)) = true) :
    ∀ a ∈ as, ∀ b ∈ bs, r a b = true :=
  fun a ha b hb => List.all_eq_true.mp (List.all_eq_true.mp h a ha) b hb

theorem test_witness_QueueKeepsOrder :
    QueueOrdered ordered ∧ ordered.ring.seq + 1 ∉ queuedSeqs ordered ++ waitingSeqs ordered ++ heldSeqs ordered := by
  refine ⟨⟨⟨⟨(fun h => nomatch h), List.Pairwise.nil, trivial⟩, by decide +kernel, by decide +kernel, by decide +kernel⟩, ?_,
    (fun h => nomatch h), .inr (by decide +kernel), ?_,
    by decide +kernel, all_pairs (by decide +kernel), all_pairs (by decide +kernel), by decide +kernel, by decide +kernel,
    fun _ => by decide +kernel⟩,
    by decide +kernel⟩
  · intro side h; rfl
  · intro i q h
    match i with
    | 0 => cases h; rfl
    | i + 1 => exact nomatch h

theorem test_witness_SerialKept : SerialSound working := by
  refine ⟨fun _ => rfl, (fun h => nomatch h), ⟨fun _ => rfl, fun _ => rfl⟩, fun _ => rfl, fun bits h => nomatch h⟩

theorem test_witness_ModesKept : LockSound working ∧ HoldSound working ∧ OverrunSound working := by
  refine ⟨by unfold LockSound; decide +kernel, ?_, by unfold OverrunSound; decide +kernel⟩
  intro side h; rfl

theorem test_witness_EventsKept : EventsSound signalled := by
  refine ⟨?_, fun _ => rfl⟩
  intro src; cases src <;> decide +kernel

theorem test_witness_RulesKept : RulesSound working := by
  have at_rule : ∀ i, i < 32 → ruleAt working i =
      if 0 = i then { watching ⟨true, false, false⟩ [⟨0, 0xFF, 0x5A⟩] with useCount := 1 } else Rule.empty := by
    intro i hi
    refine (Table.get_set State.reset.rules 0 i _ _ (by decide)).trans ?_
    rw [show State.reset.rules.get i Rule.empty = Rule.empty from Table.get_fill _ _ _ hi]
  refine ⟨?_, ?_⟩
  · intro i hi; rw [at_rule i hi]
    by_cases h : 0 = i <;> simp [h, watching, Rule.empty]
  · intro i hi; rw [at_rule i hi]
    by_cases h : 0 = i
    · simp only [if_pos h]; intro _
      exact ⟨by decide, .inl rfl, by decide, by decide, by decide, by decide, fun _ h => nomatch h⟩
    · simp [h, Rule.empty]

theorem test_witness_ConfigKept : ConfigSound working := by
  refine ⟨fun _ => ⟨by decide, by decide, by decide, by decide, by decide, by decide, by decide⟩, fun p h => nomatch h⟩

/-- LockedConfigurationStays: the Guard Lock set, an ENABLED rule with BLOCK. -/
theorem test_witness_LockedConfigurationStays :
    (after (framed .lockGuards) (running .lossy false)).ctrl.guardLock = true ∧
    (ruleAt (withRule (watching ⟨false, true, false⟩ []) State.reset) 0).state = .enabled ∧
    (ruleAt (withRule (watching ⟨false, true, false⟩ []) State.reset) 0).defn.actions.block = true := by decide +kernel

end Sys2Proof.Tests
end

section
/-! PROOFS. The tests of a rule on a request's bytes: the flags of a Compare and the Conditions on them (R55, R56), the data tests (R54,
R55), and the window test (R51). -/

namespace Sys2Proof.Machine

/-! ## The flags of a subtraction (R55, steps 4 to 8) -/

section Flags
variable {n : Nat} (f k : BitVec n)

theorem subFlags_z_iff : (subFlags f k).z = true ↔ f - k = 0 := by simp [subFlags]

theorem subFlags_c_iff : (subFlags f k).c = true ↔ f.toNat < k.toNat := BitVec.ult_iff_toNat_lt

theorem subFlags_s : (subFlags f k).s = (f - k).msb := rfl

theorem subFlags_v_iff : (subFlags f k).v = true ↔ f.msb ≠ k.msb ∧ (f - k).msb ≠ f.msb := by simp [subFlags]

/-- Z reads equality, of the unsigned and of the signed numbers alike. -/
theorem subFlags_z_iff_eq : (subFlags f k).z = true ↔ f = k :=
  (subFlags_z_iff f k).trans sub_eq_zero

theorem subFlags_z_iff_toNat : (subFlags f k).z = true ↔ f.toNat = k.toNat :=
  (subFlags_z_iff_eq f k).trans BitVec.toNat_inj.symm

theorem subFlags_z_iff_toInt : (subFlags f k).z = true ↔ f.toInt = k.toInt :=
  (subFlags_z_iff_eq f k).trans BitVec.toInt_inj.symm

variable {f k}

/-- Operands of one sign lie within 2^(n-1) of each other, so the sign of the difference is the borrow. -/
theorem msb_sub_of_msb_eq (h : f.msb = k.msb) : (f - k).msb = f.ult k := by
  cases n with
  | zero => simp [BitVec.of_length_zero]
  | succ m =>
    have hf := f.isLt
    have hk := k.isLt
    simp only [BitVec.msb_eq_decide, BitVec.toNat_sub, BitVec.ult_eq_decide, decide_eq_decide, Nat.add_sub_cancel,
      Nat.pow_succ] at h hf hk ⊢
    by_cases hlt : f.toNat < k.toNat
    · rw [Nat.mod_eq_of_lt] <;> omega
    · rw [Nat.mod_eq_sub_mod, Nat.mod_eq_of_lt] <;> omega

/-- Of operands of different signs the negative one is the smaller. -/
theorem slt_of_msb_ne (h : f.msb ≠ k.msb) : f.slt k = f.msb := by
  rw [BitVec.slt_eq_decide]
  cases hf : f.msb with
  | true =>
    have hk : k.msb = false := by simpa [hf] using h
    have hneg := BitVec.toInt_neg_of_msb_true hf
    have hpos := BitVec.toInt_nonneg_of_msb_false hk
    exact decide_eq_true (by omega)
  | false =>
    have hk : k.msb = true := by simpa [hf] using h
    have hpos := BitVec.toInt_nonneg_of_msb_false hf
    have hneg := BitVec.toInt_neg_of_msb_true hk
    exact decide_eq_false (by omega)

/-- S xor V is the sign of F − K as an integer: where the signs agree nothing overflows and S is the borrow, and where they differ V
corrects S to the sign of F. -/
theorem subFlags_s_xor_v (f k : BitVec n) : ((subFlags f k).s ^^ (subFlags f k).v) = f.slt k := by
  by_cases h : f.msb = k.msb
  · have hv : (subFlags f k).v = false := by simp [subFlags, h]
    rw [hv, Bool.xor_false, subFlags_s, msb_sub_of_msb_eq h, BitVec.slt_eq_ult_of_msb_eq h]
  · have hv : (subFlags f k).v = ((f - k).msb ^^ f.msb) := by simp [subFlags, h, bne]
    rw [hv, subFlags_s, ← Bool.xor_assoc, Bool.xor_self, Bool.false_xor, slt_of_msb_ne h]

theorem subFlags_s_xor_v_iff (f k : BitVec n) :
    ((subFlags f k).s ^^ (subFlags f k).v) = true ↔ f.toInt < k.toInt := by
  rw [subFlags_s_xor_v, BitVec.slt_iff_toInt_lt]

end Flags

/-! ## The Conditions (R56) -/

section Conditions
variable {n : Nat} (f k : BitVec n)

theorem conditionHolds_eq : conditionHolds .eq (subFlags f k) = true ↔ f = k := subFlags_z_iff_eq f k

theorem conditionHolds_ne : conditionHolds .ne (subFlags f k) = true ↔ f ≠ k := by
  simp only [conditionHolds, Bool.not_eq_true', ← Bool.not_eq_true, subFlags_z_iff_eq, ne_eq]

theorem conditionHolds_ult : conditionHolds .ult (subFlags f k) = true ↔ f.toNat < k.toNat := subFlags_c_iff f k

theorem conditionHolds_uge : conditionHolds .uge (subFlags f k) = true ↔ k.toNat ≤ f.toNat := by
  simp only [conditionHolds, Bool.not_eq_true', ← Bool.not_eq_true, subFlags_c_iff, Nat.not_lt]

theorem conditionHolds_ugt : conditionHolds .ugt (subFlags f k) = true ↔ k.toNat < f.toNat := by
  simp only [conditionHolds, Bool.and_eq_true, Bool.not_eq_true', ← Bool.not_eq_true, subFlags_c_iff, subFlags_z_iff_toNat]
  omega

theorem conditionHolds_ule : conditionHolds .ule (subFlags f k) = true ↔ f.toNat ≤ k.toNat := by
  simp only [conditionHolds, Bool.or_eq_true, subFlags_c_iff, subFlags_z_iff_toNat]
  omega

theorem conditionHolds_lt : conditionHolds .lt (subFlags f k) = true ↔ f.toInt < k.toInt := subFlags_s_xor_v_iff f k

theorem conditionHolds_ge : conditionHolds .ge (subFlags f k) = true ↔ k.toInt ≤ f.toInt := by
  simp only [conditionHolds, Bool.not_eq_true', ← Bool.not_eq_true, subFlags_s_xor_v_iff, Int.not_lt]

theorem conditionHolds_gt : conditionHolds .gt (subFlags f k) = true ↔ k.toInt < f.toInt := by
  simp only [conditionHolds, Bool.and_eq_true, Bool.not_eq_true', ← Bool.not_eq_true, subFlags_s_xor_v_iff, subFlags_z_iff_toInt]
  omega

theorem conditionHolds_le : conditionHolds .le (subFlags f k) = true ↔ f.toInt ≤ k.toInt := by
  simp only [conditionHolds, Bool.or_eq_true, subFlags_s_xor_v_iff, subFlags_z_iff_toInt]
  omega

end Conditions

/-- The codes above 9 name no Condition (12.3). -/
theorem conditionOf_eq_none {b : Byte} (h : 9 < b.toNat) : conditionOf b = none := by
  have hne : ∀ c : Byte, c.toNat ≤ 9 → b ≠ c := by
    rintro c hc rfl
    omega
  simp [conditionOf, hne]

/-- R69: a Compare that is present with a code of no Condition is refused. -/
theorem compareOf_eq_none {p : RuleParams} (hp : p.compare ≠ 0) (hc : 9 < p.condition.toNat) : compareOf p = none := by
  simp only [compareOf, if_neg hp, conditionOf_eq_none hc]

theorem ruleDefOf_eq_none_of_compareOf {p : RuleParams} (h : compareOf p = none) : ruleDefOf p = none := by
  simp [ruleDefOf, h]

theorem loadRuleReply_of_ruleDefOf_eq_none {p : RuleParams} (h : ruleDefOf p = none) (s : State) :
    loadRuleReply p s = ⟨.badParam, [], s⟩ := by
  simp only [loadRuleReply, h, replyWith]

/-! ## The data tests (R54, R55) -/

theorem termHolds_iff (t : PatternTerm) (data : List Byte) :
    termHolds t data = true ↔ ∃ b, data[t.offset.toNat]? = some b ∧ b &&& t.mask = t.value &&& t.mask := by
  unfold termHolds
  cases data[t.offset.toNat]? with
  | none => simp
  | some b => simp

theorem patternHolds_iff (pattern : List PatternTerm) (data : List Byte) :
    patternHolds pattern data = true ↔ ∀ t ∈ pattern, termHolds t data = true := List.all_eq_true

theorem compareHolds_iff (c : Compare) (data : List Byte) :
    compareHolds c data = true ↔
      c.offset.toNat + c.width.toNat ≤ data.length ∧ conditionHolds c.condition (compareFlags c data) = true := by
  simp only [compareHolds, Bool.and_eq_true, decide_eq_true_eq]

/-! ## The window test (R51) -/

section Window
variable {d : RuleDef}

theorem windowTest_overlap_iff (h : d.windowMode = .overlap) (a l : Nat) :
    windowTest d a l = true ↔ a ≤ d.limit.toNat ∧ d.base.toNat ≤ a + l - 1 := by
  simp [windowTest, h]

theorem windowTest_inside_iff (h : d.windowMode = .inside) (a l : Nat) :
    windowTest d a l = true ↔ d.base.toNat ≤ a ∧ a + l - 1 ≤ d.limit.toNat := by
  simp [windowTest, h]

end Window

/-- Two intervals that are not empty meet exactly when each begins before the other ends. -/
theorem intervals_meet_iff {a l base limit : Nat} (hl : 1 ≤ l) (hw : base ≤ limit) :
    (a ≤ limit ∧ base ≤ a + l - 1) ↔ ∃ k, k < l ∧ base ≤ a + k ∧ a + k ≤ limit := by
  constructor
  · rintro ⟨hlimit, hbase⟩
    exact ⟨base - a, by omega, by omega, by omega⟩
  · rintro ⟨k, hk, hbase, hlimit⟩
    exact ⟨by omega, by omega⟩

/-- An interval that is not empty lies in another exactly when its first and its last member do. -/
theorem interval_within_iff {a l base limit : Nat} (hl : 1 ≤ l) :
    (base ≤ a ∧ a + l - 1 ≤ limit) ↔ ∀ k, k < l → base ≤ a + k ∧ a + k ≤ limit := by
  constructor
  · rintro ⟨hfirst, hlast⟩ k hk
    exact ⟨by omega, by omega⟩
  · intro hall
    have hfirst := hall 0 (by omega)
    have hlast := hall (l - 1) (by omega)
    exact ⟨by omega, by omega⟩

theorem classify_eq_wellFormed_iff (p : RequestPacket) :
    classify p = .wellFormed ↔ reqGoodCheck p = true ∧ isMalformed p = false := by
  cases hgood : reqGoodCheck p <;> cases hmal : isMalformed p <;> simp [classify, hgood, hmal]

/-- R1: a well-formed request has a Length of 1 to 64 and ends in the 64-byte block where it begins. -/
theorem length_and_block_of_wellFormed {p : RequestPacket} (h : classify p = .wellFormed) :
    1 ≤ p.length.toNat ∧ p.length.toNat ≤ 64 ∧ p.address.toNat % 64 + p.length.toNat ≤ 64 := by
  obtain ⟨-, hmal⟩ := (classify_eq_wellFormed_iff p).mp h
  simp only [isMalformed, Bool.or_eq_false_iff, beq_eq_false_iff_ne, decide_eq_false_iff_not] at hmal
  obtain ⟨⟨⟨⟨⟨-, hzero⟩, hlong⟩, hblock⟩, -⟩, -⟩ := hmal
  omega

/-- The last byte of a well-formed request lies in the block of its first, and 64 divides the size of the address space. -/
theorem lastByte_of_wellFormed {p : RequestPacket} (h : classify p = .wellFormed) :
    (p.address.toNat + p.length.toNat - 1) / 64 = p.address.toNat / 64 ∧
      p.address.toNat + p.length.toNat - 1 < 2 ^ 32 := by
  obtain ⟨hpos, -, hblock⟩ := length_and_block_of_wellFormed h
  have haddr : p.address.toNat < 2 ^ 32 := p.address.isLt
  omega

/-! ## The obligations -/

/-- Settles O10: Z reads equality, C the unsigned order and S xor V the signed order; a Condition code above 9 leaves no definition. -/
theorem conditionsReadNumbers : Obligations.ConditionsReadNumbers := by
  refine ⟨fun x => ⟨rfl, rfl, rfl, rfl, rfl, rfl, rfl, rfl, rfl, rfl⟩, fun n f k => ?_, fun p s hp hc => ?_⟩
  · exact ⟨conditionHolds_eq f k, conditionHolds_ne f k, conditionHolds_ult f k, conditionHolds_uge f k, conditionHolds_ugt f k,
      conditionHolds_ule f k, conditionHolds_lt f k, conditionHolds_ge f k, conditionHolds_gt f k, conditionHolds_le f k⟩
  · exact loadRuleReply_of_ruleDefOf_eq_none (ruleDefOf_eq_none_of_compareOf (compareOf_eq_none hp hc)) s

/-- Settles O11, from what each data test holds on; the flags of a Compare are those of the subtraction by definition. -/
theorem dataTestsOnBytes : Obligations.DataTestsOnBytes :=
  ⟨termHolds_iff, patternHolds_iff, compareHolds_iff, fun _ _ => ⟨rfl, rfl⟩,
    fun _ f k => ⟨subFlags_z_iff f k, subFlags_c_iff f k, subFlags_s f k, subFlags_v_iff f k⟩⟩

/-- Settles O12: the tests of the Window Modes are inequalities, and these say which of the bytes covered lie in the window. -/
theorem windowCoversBytes : Obligations.WindowCoversBytes := by
  refine ⟨fun d a l _ => ⟨fun h => windowTest_overlap_iff h a l, fun h => windowTest_inside_iff h a l⟩,
    fun d a l hl hw => ⟨fun h => ?_, fun h => ?_⟩, fun p hp => ?_⟩
  · exact (windowTest_overlap_iff h a l).trans (intervals_meet_iff hl hw)
  · exact (windowTest_inside_iff h a l).trans (interval_within_iff hl)
  · obtain ⟨hpos, -, -⟩ := length_and_block_of_wellFormed hp
    exact ⟨hpos, lastByte_of_wellFormed hp⟩

end Sys2Proof.Machine
end

section
/-! PROOFS. The fill data and the responses of refused reads (R12, R94, R96, R98). -/

namespace Sys2Proof.Machine

/-! ## Fill data (R96) -/

@[simp] theorem fillData_length (a : Addr) (l : Nat) (s : State) : (fillData a l s).length = l := by
  rw [fillData, List.length_map, List.length_range]

theorem fillData_getElem? {l i : Nat} (hi : i < l) (a : Addr) (s : State) :
    (fillData a l s)[i]? = some (s.fill.get ((a.toNat + i) % 16) 0) := by
  rw [fillData, List.getElem?_map, List.getElem?_range hi, Option.map_some]

/-! ## The responses the part makes -/

section RefusedResponse
variable (src : SourceId) (tag : Tag) (attr : Attr) (length : Byte) (data : List Byte)

@[simp] theorem refusedResponse_length : (refusedResponse src tag attr length data).length = length := rfl

@[simp] theorem refusedResponse_data : (refusedResponse src tag attr length data).data = data := rfl

end RefusedResponse

/-- R94: an early refusal answers for the bytes the request asked for. -/
theorem earlyRefusal_length_data (p : RequestPacket) (s : State) :
    (earlyRefusal p s).length = p.length ∧ (earlyRefusal p s).data = fillData p.address p.length.toNat s :=
  ⟨refusedResponse_length .., refusedResponse_data ..⟩

/-- R98: a late refusal answers for the bytes the entry tracks, whatever the memory's response carried. -/
theorem lateRefusal_length_data (e : OrtEntry) (s : State) :
    (lateRefusal e s).length = e.length ∧ (lateRefusal e s).data = fillData e.address e.length.toNat s :=
  ⟨refusedResponse_length .., refusedResponse_data ..⟩

/-- R12: the response to a malformed read is empty. -/
theorem malformedResponse_length_data (p : RequestPacket) :
    (malformedResponse p).length = 0 ∧ (malformedResponse p).data = [] :=
  ⟨refusedResponse_length .., refusedResponse_data ..⟩

/-- The addresses of a well-formed request's bytes do not pass the top of the address space, so R96 need not reduce A + i. -/
theorem end_le_of_wellFormed {p : RequestPacket} (h : classify p = .wellFormed) :
    p.address.toNat + p.length.toNat ≤ 2 ^ 32 := by
  obtain ⟨-, hlast⟩ := lastByte_of_wellFormed h
  omega

/-! ## The obligation -/

/-- Settles O15: the fill data is read off byte by byte, and each refusal hands it the Address and Length of its own source. -/
theorem fillByAddress : Obligations.FillByAddress :=
  ⟨fun a l s => ⟨fillData_length a l s, fun _ hi => fillData_getElem? hi a s⟩, earlyRefusal_length_data, lateRefusal_length_data,
    malformedResponse_length_data, fun _ hp => end_le_of_wellFormed hp⟩

end Sys2Proof.Machine
end

section
/-! PROOFS. How the Trigger Sequencer takes a match set (R154). -/

namespace Sys2Proof.Machine

/-! ## A match set in RUN(k): the cases of R154 in order -/

section Run
variable {m : RuleSet} {now : Ticks} {g : Sequencer} {k progress : Nat} {ws : Option Ticks}

theorem takeMatch_run_abort (hrun : g.state = .run k progress ws) (habort : meets m g.settings.abortRules = true) :
    takeMatch m now g = some (enterStage 0 now g) := by
  simp only [takeMatch, hrun, habort, if_true]

theorem takeMatch_run_neither (hrun : g.state = .run k progress ws) (habort : ¬ meets m g.settings.abortRules = true)
    (hstage : meets m (stageAt g k).rules = false) : takeMatch m now g = some g.state := by
  simp only [takeMatch, hrun, habort, hstage, Bool.false_eq_true, if_false]

/-- Past the abort, a match set that meets the stage's rules raises the progress by one, and the Count decides what follows. -/
theorem takeMatch_run_progress (hrun : g.state = .run k progress ws) (habort : ¬ meets m g.settings.abortRules = true)
    (hstage : ¬ meets m (stageAt g k).rules = false) :
    takeMatch m now g =
      if progress + 1 < (stageAt g k).count.toNat then some (.run k (progress + 1) ws)
      else if k + 1 < g.settings.stagesInUse then some (enterStage (k + 1) now g)
      else none := by
  simp only [takeMatch, hrun, habort, Bool.eq_true_of_not_eq_false hstage, Bool.false_eq_true, if_false, if_true]

end Run

/-- In OFF, POST and FIRED no match set changes anything. -/
theorem takeMatch_of_not_run {g : Sequencer} (h : ∀ k progress ws, g.state ≠ .run k progress ws) (m : RuleSet) (now : Ticks) :
    takeMatch m now g = some g.state := by
  cases hstate : g.state with
  | run k progress ws => exact absurd hstate (h k progress ws)
  | off => simp only [takeMatch, hstate]
  | post r => simp only [takeMatch, hstate]
  | fired => simp only [takeMatch, hstate]

/-! ## The obligation -/

/-- Settles O31: in RUN by the cases of R154 (abort, neither, progress), elsewhere because no match set is taken. -/
theorem sequencerTakesMatch : Obligations.SequencerTakesMatch := by
  refine ⟨fun m now g k progress ws hrun => ?_, fun m now g h => takeMatch_of_not_run h m now, fun _ _ _ => rfl⟩
  split
  next habort => exact takeMatch_run_abort hrun habort
  next habort =>
    split
    next hstage => exact takeMatch_run_neither hrun habort hstage
    next hstage => exact takeMatch_run_progress hrun habort hstage

end Sys2Proof.Machine
end

section
/-! PROOFS. What a command can do, said once: the reply of each block to its frames, and the effect of every command on the part outside the
Management port, branch by branch with its guards. -/

namespace Sys2Proof.Machine

set_option Elab.async false

/-! ## Frames -/

/-- The reply of the block that owns the command of a frame. -/
def replyOf : Instr → State → Reply
  | .status _ => statusReply
  | .setMode code _ => setModeReply code
  | .lockGuards _ => lockGuardsReply
  | .loadSource index src cls flags _ => loadSourceReply index src cls flags
  | .clearSource index _ => clearSourceReply index
  | .readSource index clear _ => readSourceReply index clear
  | .loadRule p _ => loadRuleReply p
  | .enableRule index _ => enableRuleReply index
  | .disableRule index _ => disableRuleReply index
  | .clearRule index _ => clearRuleReply index
  | .readRule index _ => readRuleReply index
  | .readCounters index _ => readCountersReply index
  | .readGlobals _ => readGlobalsReply
  | .setRing p _ => setRingReply p
  | .ringStatus _ => ringStatusReply
  | .setFill bytes _ => setFillReply bytes
  | .setTimers rt hl ms _ => setTimersReply rt hl ms
  | .loadStage index rules count window oe _ => loadStageReply index rules count window oe
  | .setSequencer stages abort post fa _ => setSequencerReply stages abort post fa
  | .seqStart _ => seqStartReply
  | .seqStop _ => seqStopReply
  | .seqStatus _ => seqStatusReply
  | .readSnapshot _ => readSnapshotReply
  | .clearSnapshot _ => clearSnapshotReply
  | .takeEvent _ => takeEventReply
  | .endEvent _ => endEventReply
  | .setEventEnable l0 l1 l2 l3 ge _ => setEventEnableReply l0 l1 l2 l3 ge
  | _ => replyWith .ok

/-- A command that is a whole frame is run as one. -/
theorem exec_eq_runFrame {c : Instr} {cmd : MgmtCommand} {params : List Byte} {tail : FrameTail}
    (hf : frameOf c = some (cmd, params, tail)) (s : State) : exec c s = .next (runFrame cmd params tail (replyOf c) s) := by
  cases c <;> cases hf <;> rfl

/-- A frame that runs is answered with its block's reply. -/
theorem exec_of_runs {c : Instr} {cmd : MgmtCommand} {params : List Byte} {tail : FrameTail} {s : State}
    (hf : frameOf c = some (cmd, params, tail)) (h : runs c s = true) :
    exec c s = .next (replied c (replyOf c s).result (replyOf c s).response (replyOf c s).state) := by
  rw [exec_eq_runFrame hf, runFrame_of_runs hf _ h]

/-- A frame leaves the part as it is, or changes the port alone, or is its block's reply, answered. -/
theorem runFrame_cases (cmd : MgmtCommand) (params : List Byte) (tail : FrameTail) (body : State → Reply) (s : State) :
    runFrame cmd params tail body s = s ∨
    runFrame cmd params tail body s = answer cmd params (replyWith .badCheck s) tail ∨
    runFrame cmd params tail body s = answer cmd params (body s) tail := by
  unfold runFrame
  split
  · split
    · exact .inr (.inr rfl)
    · exact .inr (.inl rfl)
  · exact .inl rfl

/-! ## Every command -/

/-- The state a resolution at the head of the Request Buffer starts from: a source clash and an intrusion are signalled first. -/
inductive SignalledHead (p : RequestPacket) (s : State) : State → Prop
  | clash : SignalledHead p s (sourceClash p s)
  | intrusion : SignalledHead p s (raise .ringIntrusion (count .intrusions (sourceClash p s)))

/-- The state a response's entry is removed from: damage is counted first. -/
inductive SignalledResponse (src : SourceId) (s : State) : State → Prop
  | sound : SignalledResponse src s s
  | damaged : SignalledResponse src s (countDamaged src s)

/-- The state a read is resolved in by its response: its entry is removed, and a refusal is counted. -/
inductive EntryLeft (e : OrtEntry) (src : SourceId) (s : State) : State → Prop
  | passed {v : State} : SignalledResponse src s v → EntryLeft e src s (removeEntry (holdsKeyLive e.source e.tag) e v)
  | refused {v : State} : SignalledResponse src s v →
      EntryLeft e src s (count .refused (removeEntry (holdsKeyLive e.source e.tag) e v))

/-- What a command can do to the part outside the Management port: one constructor for each branch of `exec`, with its guards. -/
inductive Effect (s : State) : Instr → State → Prop
  /-- Nothing: a row whose condition does not hold (log 4), a frame refused or with a bad check, a command that only answers. -/
  | idle (c : Instr) : Effect s c s
  -- what reaches the link
  | arrived (p : RequestPacket) : s.linkUp = true → s.near.buffer.length < Config.requestBufferSize →
      Effect s (.requestArrival p) (bufferRequest p s)
  | consumed (p : RequestPacket) (c' : BitVec 16) : s.linkUp = true → s.near.buffer.length < Config.requestBufferSize →
      (c' - s.ring.c).toNat ≤ unconsumed s.ring → Effect s (.requestArrival p) (acceptUpdate c' (bufferRequest p s))
  | consumerRejected (p : RequestPacket) : s.linkUp = true → s.near.buffer.length < Config.requestBufferSize →
      Effect s (.requestArrival p) (rejectUpdate (bufferRequest p s))
  | responded (p : ResponsePacket) : s.linkUp = true → s.far.buffer.length < Config.responseBufferSize →
      Effect s (.responseArrival p) (changeEntry p.source p.tag (answerEntry s.time) (bufferResponse p s))
  | farCredit (n : Nat) : s.linkUp = true →
      Effect s (.farRequestCredit n) { s with far := { s.far with credits := addCredits s.far.credits n } }
  | nearCredit (n : Nat) : s.linkUp = true →
      Effect s (.nearResponseCredit n) { s with near := { s.near with credits := addCredits s.near.credits n } }
  -- the head of the Request Buffer
  | bypassed (b : BufferedRequest) : atHead b s → Effect s .requestAtHead (setHead (.ready (untracked b.packet false)) s)
  | damaged (b : BufferedRequest) : atHead b s → Effect s .requestAtHead (damagedAtHead b.packet s)
  | malformed (b : BufferedRequest) : atHead b s → Effect s .requestAtHead (malformedAtHead b.packet (sourceClash b.packet s))
  | duplicate (b : BufferedRequest) : atHead b s → Effect s .requestAtHead (duplicateAtHead b.packet (sourceClash b.packet s))
  | guardDropped (b : BufferedRequest) {v : State} : atHead b s → SignalledHead b.packet s v →
      Effect s .requestAtHead (count .refused (popRequest v))
  | requestResolved (b : BufferedRequest) (m : RuleSet) (x : Transaction) (refused : Bool) (next : AfterCapture) {v : State} :
      atHead b s → SignalledHead b.packet s v →
      Effect s .requestAtHead (captureRequest (resolve m x refused v).2 next (resolve m x refused v).1)
  | readWaits (b : BufferedRequest) (w : WaitingRead) : atHead b s → keyInOrt b.packet.source b.packet.tag s = false →
      (∀ i, i < 32 → headCarries (.waitOrt w) i = true → (ruleAt s i).state = .enabled) →
      Effect s .requestAtHead (setHead (.waitOrt w) (sourceClash b.packet s))
  | entryCreated (w : WaitingRead) (b : BufferedRequest) : s.near.head = .waitOrt w → s.near.buffer.head? = some b →
      s.ort.length < Config.ortSize → Effect s .ortEntryCreate
        (setHead (.ready { packet := w.packet, counted := true, tracked := true })
          (addUses w.pendingRules { s with ort := s.ort ++ [newEntry b.packet w] }))
  | refusalAdmitted (r : ResponsePacket) : s.near.head = .waitRefusal r false → s.near.refusals.length < Config.refusalQueueSize →
      Effect s .refusalQueueAdmit (popRequest { s with near := { s.near with refusals := s.near.refusals ++ [r] } })
  | countedRefusalAdmitted (r : ResponsePacket) : s.near.head = .waitRefusal r true →
      s.near.refusals.length < Config.refusalQueueSize →
      Effect s .refusalQueueAdmit (count .refused (popRequest { s with near := { s.near with refusals := s.near.refusals ++ [r] } }))
  -- the head of the Response Buffer
  | responseBypassed (b : BufferedResponse) : responseAtHead b s → Effect s .responseAtHead (setResponseHead (.ready b.packet) s)
  | stray (b : BufferedResponse) : responseAtHead b s → Effect s .responseAtHead (strayAtHead b s)
  | orphanRestored (b : BufferedResponse) (e : OrtEntry) {v : State} : responseAtHead b s →
      findLive b.packet.source b.packet.tag s = some e → SignalledResponse b.packet.source s v →
      Effect s .responseAtHead (orphanAtHead b e v)
  | responseResolved (b : BufferedResponse) (e : OrtEntry) (m : RuleSet) (x : Transaction) (refused : Bool) (out : ResponsePacket)
      {v : State} : responseAtHead b s → findLive b.packet.source b.packet.tag s = some e →
      EntryLeft e b.packet.source s v →
      Effect s .responseAtHead (captureResponse (resolve m x refused v).2 out (resolve m x refused v).1)
  -- expiry and room
  | orphanExpired (e : OrtEntry) (src : SourceId) (tag : Tag) : findLive src tag s = some e →
      Effect s (.readTimerExpiry src tag) (removeEntry (holdsKeyLive src tag) e s)
  | readExpired (e : OrtEntry) (src : SourceId) (tag : Tag) : findLive src tag s = some e →
      Effect s (.readTimerExpiry src tag) (expire e s)
  | admitted (w : Waiter) : s.ring.queue.length < Config.captureQueueSize → firstWaiter s.ring.seq (waiters s) = some w →
      Effect s .captureQueueAdmit (admitRecord w s)
  -- the arbiters
  | requestGranted (f : Forwarding) : s.linkUp = true → 0 < s.far.credits → s.near.head = .ready f →
      Effect s .farPortGrant (grantRequest f s)
  | writerGranted (p : RequestPacket) : s.linkUp = true → 0 < s.far.credits → presentedPacket s.ring.writer = some p →
      Effect s .farPortGrant (advanceWriter (sendFar p .writer s))
  | writerStarted (q : QueuedRecord) (rest : List QueuedRecord) : s.ring.writer = .idle → s.ring.queue = q :: rest →
      Effect s .captureWriterStart (setWriter (.first (firstWrite q s)) s)
  | responseGranted (p : ResponsePacket) : s.linkUp = true → 0 < s.near.credits → s.far.head = .ready p →
      Effect s .nearPortResponseGrant (popResponse (sendNear p .memory s))
  | refusalGranted (p : ResponsePacket) (rest : List ResponsePacket) : s.linkUp = true → 0 < s.near.credits →
      s.near.refusals = p :: rest →
      Effect s .nearPortResponseGrant (sendNear p .refusalQueue { s with near := { s.near with refusals := rest } })
  -- time
  | heldRequestExpired : Effect s (.holdExpiry .request) (abandonHeldRequest (holdRanOut s))
  | heldResponseExpired : Effect s (.holdExpiry .response) (abandonHeldResponse (holdRanOut s))
  | windowExpired (q : SeqState) : Effect s .stageWindowExpiry (setSeqState q s)
  | markEnded : Effect s .markPulseEnd { s with seqr := { s.seqr with markFiredAt := none } }
  | ticked : inHardReset s = false → Effect s .timeTick { s with time := s.time + 1 }
  | freezeTaken : s.ctrl.mode = .active →
      Effect s .freezeRequest (enterFrozen { s with ctrl := { s.ctrl with freezeRequests := s.ctrl.freezeRequests - 1 } })
  | freezeSpent : Effect s .freezeRequest { s with ctrl := { s.ctrl with freezeRequests := s.ctrl.freezeRequests - 1 } }
  -- resets
  | linkPinned : Effect s .linkReset { s with pins := { s.pins with link := true } }
  | linkCleared : Effect s .linkReset (clearLink { s with pins := { s.pins with link := true } })
  | boardPinned : Effect s .boardReset { s with pins := { s.pins with board := true } }
  | boardCleared : Effect s .boardReset
      (hardReset { s.pins with board := true } s.seqr.snapshot .board (satInc s.port.resetCount) s)
  | powerCleared : Effect s .powerOn (hardReset { s.pins with power := true } none .power 0 s)
  | released (r : Release) : Effect s (.linkUp r) { s with pins := releasePins s.pins r.inputs }
  | broughtUp (r : Release) : s.linkUp = false → Effect s (.linkUp r) (bringUp { s with pins := releasePins s.pins r.inputs })
  -- modes, fill, timers
  | modeEntered (m : Mode) (code : Byte) (tail : FrameTail) : modeRefusal m s = none → Effect s (.setMode code tail) (enterMode m s)
  | locked (tail : FrameTail) : s.ctrl.mode ≠ .bypass →
      Effect s (.lockGuards tail) { s with ctrl := { s.ctrl with guardLock := true } }
  | fillSet (bytes : Table Byte 16) (tail : FrameTail) : Effect s (.setFill bytes tail) { s with fill := bytes }
  | timersSet (rt hl : BitVec 16) (ms : Byte) (tail : FrameTail) (x : Timers) :
      Effect s (.setTimers rt hl ms tail) { s with timers := x }
  -- the Source Table
  | sourceLoaded (index src cls flags : Byte) (tail : FrameTail) : index.toNat ≤ 15 → cls ≠ 0 → cls.toNat ≤ 7 →
      s.ctrl.guardLock = false → listedElsewhere index.toNat (src.setWidth 6) s = false →
      Effect s (.loadSource index src cls flags tail) (setSource index.toNat
        { valid := true, sourceId := src.setWidth 6, cls := cls.setWidth 3, forceOrdered := flags.getLsbD 0,
          demote := flags.getLsbD 1, damaged := 0 } s)
  | sourceCleared (index : Byte) (tail : FrameTail) : index.toNat ≤ 15 → s.ctrl.guardLock = false →
      Effect s (.clearSource index tail) (setSource index.toNat SourceEntry.empty s)
  | sourceRead (index clear : Byte) (tail : FrameTail) : index.toNat ≤ 15 →
      Effect s (.readSource index clear tail) (setSource index.toNat { sourceAt s index.toNat with damaged := 0 } s)
  -- the Rule Table and the counters
  | ruleLoaded (p : RuleParams) (d : RuleDef) (tail : FrameTail) : ruleDefOf p = some d → p.index.toNat ≤ 31 →
      (ruleAt s p.index.toNat).useCount = 0 → (ruleAt s p.index.toNat).state ≠ .enabled →
      Effect s (.loadRule p tail) (zeroCounters p.index.toNat (setRule p.index.toNat ⟨.disabled, d, 0⟩ s))
  | ruleEnabled (index : Byte) (tail : FrameTail) : index.toNat ≤ 31 → (ruleAt s index.toNat).state = .disabled →
      Effect s (.enableRule index tail) (setRule index.toNat { ruleAt s index.toNat with state := .enabled } s)
  | ruleDisabled (index : Byte) (tail : FrameTail) : index.toNat ≤ 31 → (ruleAt s index.toNat).state = .enabled →
      guarded (ruleAt s index.toNat) s = false → Effect s (.disableRule index tail) (disableRule index.toNat s)
  | ruleCleared (index : Byte) (tail : FrameTail) : index.toNat ≤ 31 → (ruleAt s index.toNat).state = .disabled →
      Effect s (.clearRule index tail) (zeroCounters index.toNat (setRule index.toNat Rule.empty s))
  | countersRead (index : Byte) (tail : FrameTail) : Effect s (.readCounters index tail) (zeroCounters index.toNat s)
  | globalsRead (tail : FrameTail) : Effect s (.readGlobals tail)
      { s with counters := { s.counters with globals := Globals.zero }, ring := { s.ring with loss := 0 } }
  -- the ring
  | ringLoaded (p : RingParams) (cfg : RingConfig) (tail : FrameTail) : ringConfigOf p = some cfg → s.ctrl.mode = .bypass →
      ringBusy s = false → Effect s (.setRing p tail) (loadRing cfg s)
  | ringRead (tail : FrameTail) : Effect s (.ringStatus tail)
      { s with ring := { s.ring with overrunSeen := s.ring.overrunSeen || s.ring.overrun } }
  -- the sequencer
  | stageLoaded (index : Byte) (rules : RuleSet) (n : BitVec 16) (window : BitVec 32) (oe : Byte) (tail : FrameTail)
      (x : StageRecord) : Effect s (.loadStage index rules n window oe tail)
        { s with seqr := { s.seqr with stages := s.seqr.stages.set index.toNat x } }
  | settingsLoaded (n : Byte) (abort : RuleSet) (post : BitVec 16) (fa : Byte) (tail : FrameTail) (x : SeqSettings) :
      Effect s (.setSequencer n abort post fa tail) { s with seqr := { s.seqr with settings := x } }
  | sequencerStarted (tail : FrameTail) : Effect s (.seqStart tail) (setSeqState (enterStage 0 s.time s.seqr) s)
  | sequencerStopped (tail : FrameTail) : Effect s (.seqStop tail) (setSeqState .off s)
  | snapshotCleared (tail : FrameTail) : Effect s (.clearSnapshot tail) { s with seqr := { s.seqr with snapshot := none } }
  -- events
  | eventTaken (src : EventSource) (tail : FrameTail) :
      Effect s (.takeEvent tail) { s with events := takeSource src s.events }
  | serviceEnded (tail : FrameTail) : Effect s (.endEvent tail) { s with events := endService s.events }
  | noServiceEnded (tail : FrameTail) :
      Effect s (.endEvent tail) { s with events := { s.events with globalEnable := true } }
  | eventsEnabled (l0 l1 l2 l3 ge : Byte) (tail : FrameTail) (levels : BitVec 4) (g : Bool) :
      Effect s (.setEventEnable l0 l1 l2 l3 ge tail)
        { s with events := { s.events with levelEnable := levels, globalEnable := g } }

/-- The command moves the Management port besides what its effect says: it is a frame, or it takes edges, or it resets the link. -/
def movesPort : Instr → Bool
  | .linkReset | .linkUp _ | .frameAbort _ _ | .badCommand _ _ => true
  | c => (frameOf c).isSome

theorem movesPort_of_frame {c : Instr} {x : MgmtCommand × List Byte × FrameTail} (hf : frameOf c = some x) : movesPort c = true := by
  unfold movesPort
  split
  · rfl
  · rfl
  · rfl
  · rfl
  · rw [hf]; rfl

/-- The state is one that the command's effect can leave, but for the Management port. -/
def EffectOutsidePort (s : State) (c : Instr) (t : State) : Prop :=
  ∃ u p, Effect s c u ∧ t = { u with port := p } ∧ (movesPort c = false → p = u.port)

theorem Effect.outsidePort {s u : State} {c : Instr} (h : Effect s c u) : EffectOutsidePort s c u := ⟨u, u.port, h, rfl, fun _ => rfl⟩

end Sys2Proof.Machine
end

section
/-! PROOFS. Every command has an effect of the list, one row at a time. -/

namespace Sys2Proof.Machine

set_option Elab.async false

/-! ## The replies of the blocks -/

theorem effect_idle (c : Instr) (s : State) : EffectOutsidePort s c s := (Effect.idle c).outsidePort

theorem setModeReply_effect (code : Byte) (tail : FrameTail) (s : State) :
    EffectOutsidePort s (.setMode code tail) (setModeReply code s).state := by
  unfold setModeReply
  split
  · exact effect_idle _ s
  next m _ =>
    split
    · exact effect_idle _ s
    next hm => exact (Effect.modeEntered m code tail hm).outsidePort

theorem lockGuardsReply_effect (tail : FrameTail) (s : State) :
    EffectOutsidePort s (.lockGuards tail) (lockGuardsReply s).state := by
  unfold lockGuardsReply
  split
  · exact effect_idle _ s
  · next h => exact (Effect.locked tail h).outsidePort

theorem setTimersReply_effect (rt hl : BitVec 16) (ms : Byte) (tail : FrameTail) (s : State) :
    EffectOutsidePort s (.setTimers rt hl ms tail) (setTimersReply rt hl ms s).state := by
  unfold setTimersReply
  split
  · exact effect_idle _ s
  · exact (Effect.timersSet rt hl ms tail _).outsidePort

theorem loadSourceReply_effect (index src cls flags : Byte) (tail : FrameTail) (s : State) :
    EffectOutsidePort s (.loadSource index src cls flags tail) (loadSourceReply index src cls flags s).state := by
  unfold loadSourceReply
  split
  · exact effect_idle _ s
  next hbad =>
    split
    · exact effect_idle _ s
    next hlock =>
      split
      · exact effect_idle _ s
      next hdup =>
        simp only [not_or, not_lt] at hbad
        obtain ⟨hindex, -, hcls, hcls7⟩ := hbad
        exact (Effect.sourceLoaded index src cls flags tail hindex hcls hcls7 (by simpa using hlock) (by simpa using hdup)).outsidePort

theorem clearSourceReply_effect (index : Byte) (tail : FrameTail) (s : State) :
    EffectOutsidePort s (.clearSource index tail) (clearSourceReply index s).state := by
  unfold clearSourceReply
  split
  · exact effect_idle _ s
  next hindex =>
    split
    · exact effect_idle _ s
    next hlock => exact (Effect.sourceCleared index tail (by omega) (by simpa using hlock)).outsidePort

theorem readSourceReply_effect (index clear : Byte) (tail : FrameTail) (s : State) :
    EffectOutsidePort s (.readSource index clear tail) (readSourceReply index clear s).state := by
  unfold readSourceReply
  split
  · exact effect_idle _ s
  · split
    · exact effect_idle _ s
    next hindex =>
      dsimp only
      split
      · exact (Effect.sourceRead index clear tail (by omega)).outsidePort
      · exact effect_idle _ s

theorem loadRuleReply_effect (p : RuleParams) (tail : FrameTail) (s : State) :
    EffectOutsidePort s (.loadRule p tail) (loadRuleReply p s).state := by
  unfold loadRuleReply
  split
  · exact effect_idle _ s
  next d hd =>
    dsimp only
    split
    · exact effect_idle _ s
    next hindex =>
      split
      · exact effect_idle _ s
      · split
        · exact effect_idle _ s
        next huse =>
          split
          · exact effect_idle _ s
          next hstate => exact (Effect.ruleLoaded p d tail hd (by omega) (by omega) hstate).outsidePort

theorem enableRuleReply_effect (index : Byte) (tail : FrameTail) (s : State) :
    EffectOutsidePort s (.enableRule index tail) (enableRuleReply index s).state := by
  unfold enableRuleReply
  dsimp only
  split
  · exact effect_idle _ s
  next hindex =>
    split
    · exact effect_idle _ s
    next hstate => exact (Effect.ruleEnabled index tail (by omega) hstate).outsidePort
    · exact effect_idle _ s

theorem disableRuleReply_effect (index : Byte) (tail : FrameTail) (s : State) :
    EffectOutsidePort s (.disableRule index tail) (disableRuleReply index s).state := by
  unfold disableRuleReply
  dsimp only
  split
  · exact effect_idle _ s
  next hindex =>
    split
    · exact effect_idle _ s
    · exact effect_idle _ s
    next hstate =>
      split
      · exact effect_idle _ s
      next hguard => exact (Effect.ruleDisabled index tail (by omega) hstate (by simpa using hguard)).outsidePort

theorem clearRuleReply_effect (index : Byte) (tail : FrameTail) (s : State) :
    EffectOutsidePort s (.clearRule index tail) (clearRuleReply index s).state := by
  unfold clearRuleReply
  dsimp only
  split
  · exact effect_idle _ s
  next hindex =>
    split
    · exact effect_idle _ s
    next hstate => exact (Effect.ruleCleared index tail (by omega) hstate).outsidePort
    · split <;> exact effect_idle _ s

theorem readRuleReply_effect (index : Byte) (tail : FrameTail) (s : State) :
    EffectOutsidePort s (.readRule index tail) (readRuleReply index s).state := by
  unfold readRuleReply
  dsimp only
  split
  · exact effect_idle _ s
  · split <;> exact effect_idle _ s

theorem readCountersReply_effect (index : Byte) (tail : FrameTail) (s : State) :
    EffectOutsidePort s (.readCounters index tail) (readCountersReply index s).state := by
  unfold readCountersReply
  dsimp only
  split
  · exact effect_idle _ s
  · exact (Effect.countersRead index tail).outsidePort

theorem setRingReply_effect (p : RingParams) (tail : FrameTail) (s : State) :
    EffectOutsidePort s (.setRing p tail) (setRingReply p s).state := by
  unfold setRingReply
  split
  · exact effect_idle _ s
  next cfg hcfg =>
    split
    · exact effect_idle _ s
    next hmode =>
      split
      · exact effect_idle _ s
      next hbusy => exact (Effect.ringLoaded p cfg tail hcfg (not_not.mp hmode) (by simpa using hbusy)).outsidePort

theorem loadStageReply_effect (index : Byte) (rules : RuleSet) (n : BitVec 16) (window : BitVec 32) (oe : Byte) (tail : FrameTail)
    (s : State) : EffectOutsidePort s (.loadStage index rules n window oe tail) (loadStageReply index rules n window oe s).state := by
  unfold loadStageReply
  split
  · exact effect_idle _ s
  next x _ =>
    split
    · exact effect_idle _ s
    · split
      · exact effect_idle _ s
      · exact (Effect.stageLoaded index rules n window oe tail x).outsidePort

theorem setSequencerReply_effect (n : Byte) (abort : RuleSet) (post : BitVec 16) (fa : Byte) (tail : FrameTail) (s : State) :
    EffectOutsidePort s (.setSequencer n abort post fa tail) (setSequencerReply n abort post fa s).state := by
  unfold setSequencerReply
  split
  · exact effect_idle _ s
  next x _ =>
    split
    · exact effect_idle _ s
    · exact (Effect.settingsLoaded n abort post fa tail x).outsidePort

theorem seqStartReply_effect (tail : FrameTail) (s : State) : EffectOutsidePort s (.seqStart tail) (seqStartReply s).state := by
  unfold seqStartReply
  split
  · exact effect_idle _ s
  · split
    · exact effect_idle _ s
    · exact (Effect.sequencerStarted tail).outsidePort

theorem takeEventReply_effect (tail : FrameTail) (s : State) : EffectOutsidePort s (.takeEvent tail) (takeEventReply s).state := by
  unfold takeEventReply
  split
  · exact effect_idle _ s
  next src _ => exact (Effect.eventTaken src tail).outsidePort

theorem endEventReply_effect (tail : FrameTail) (s : State) : EffectOutsidePort s (.endEvent tail) (endEventReply s).state := by
  unfold endEventReply
  split
  · exact (Effect.noServiceEnded tail).outsidePort
  · exact (Effect.serviceEnded tail).outsidePort

theorem setEventEnableReply_effect (l0 l1 l2 l3 ge : Byte) (tail : FrameTail) (s : State) :
    EffectOutsidePort s (.setEventEnable l0 l1 l2 l3 ge tail) (setEventEnableReply l0 l1 l2 l3 ge s).state := by
  unfold setEventEnableReply
  split
  · exact effect_idle _ s
  next x _ => exact (Effect.eventsEnabled l0 l1 l2 l3 ge tail x.1 x.2).outsidePort

/-- The reply of a block leaves a state of the list. -/
theorem replyOf_effect {c : Instr} {cmd : MgmtCommand} {params : List Byte} {tail : FrameTail}
    (hf : frameOf c = some (cmd, params, tail)) (s : State) : EffectOutsidePort s c (replyOf c s).state := by
  cases c with
  | status _ => exact ⟨s, _, .idle _, rfl, fun h => nomatch h⟩
  | setMode code tail => exact setModeReply_effect code tail s
  | lockGuards tail => exact lockGuardsReply_effect tail s
  | loadSource index src cls flags tail => exact loadSourceReply_effect index src cls flags tail s
  | clearSource index tail => exact clearSourceReply_effect index tail s
  | readSource index clear tail => exact readSourceReply_effect index clear tail s
  | loadRule p tail => exact loadRuleReply_effect p tail s
  | enableRule index tail => exact enableRuleReply_effect index tail s
  | disableRule index tail => exact disableRuleReply_effect index tail s
  | clearRule index tail => exact clearRuleReply_effect index tail s
  | readRule index tail => exact readRuleReply_effect index tail s
  | readCounters index tail => exact readCountersReply_effect index tail s
  | readGlobals tail => exact (Effect.globalsRead tail).outsidePort
  | setRing p tail => exact setRingReply_effect p tail s
  | ringStatus tail => exact (Effect.ringRead tail).outsidePort
  | setFill bytes tail => exact (Effect.fillSet bytes tail).outsidePort
  | setTimers rt hl ms tail => exact setTimersReply_effect rt hl ms tail s
  | loadStage index rules n window oe tail => exact loadStageReply_effect index rules n window oe tail s
  | setSequencer n abort post fa tail => exact setSequencerReply_effect n abort post fa tail s
  | seqStart tail => exact seqStartReply_effect tail s
  | seqStop tail => exact (Effect.sequencerStopped tail).outsidePort
  | seqStatus tail => exact effect_idle _ s
  | readSnapshot tail => exact effect_idle _ s
  | clearSnapshot tail => exact (Effect.snapshotCleared tail).outsidePort
  | takeEvent tail => exact takeEventReply_effect tail s
  | endEvent tail => exact endEventReply_effect tail s
  | setEventEnable l0 l1 l2 l3 ge tail => exact setEventEnableReply_effect l0 l1 l2 l3 ge tail s
  | _ => cases hf

theorem exec_frame_effect {c : Instr} {cmd : MgmtCommand} {params : List Byte} {tail : FrameTail}
    (hf : frameOf c = some (cmd, params, tail)) (s : State) : IfNext (exec c s) (EffectOutsidePort s c) := by
  intro t ht
  rw [exec_eq_runFrame hf] at ht
  injection ht with ht
  subst ht
  rcases runFrame_cases cmd params tail (replyOf c) s with h | h | h <;> rw [h]
  · exact effect_idle c s
  · exact ⟨s, _, .idle c, rfl, fun h => nomatch h.symm.trans (movesPort_of_frame hf)⟩
  · obtain ⟨u, p, hu, hp, -⟩ := replyOf_effect hf s
    exact ⟨u, _, hu, by rw [answer, hp], fun h => nomatch h.symm.trans (movesPort_of_frame hf)⟩

end Sys2Proof.Machine
end

section
/-! PROOFS. The rows of the two paths, of the arbiters, of time and of the resets leave a state of the list too. -/

namespace Sys2Proof.Machine

set_option Elab.async false

theorem ifNext_next {s : State} {P : State → Prop} (h : P s) : IfNext (.next s) P := by
  intro t ht
  injection ht with ht
  exact ht ▸ h

theorem ifNext_ite {c : Prop} [Decidable c] {a b : Host.Outcome State Fault Refusal} {P : State → Prop} (ha : c → IfNext a P)
    (hb : ¬ c → IfNext b P) : IfNext (if c then a else b) P := by
  split
  next h => exact ha h
  next h => exact hb h

theorem Effect.ifNext {s u : State} {c : Instr} (h : Effect s c u) : IfNext (.next u) (EffectOutsidePort s c) :=
  ifNext_next h.outsidePort

/-- A command of another path changes nothing, or what a row says it does. -/
theorem ifNext_idle (c : Instr) (s : State) : IfNext (.next s) (EffectOutsidePort s c) := (Effect.idle c).ifNext

theorem ifNext_port {c : Instr} (hc : movesPort c = true) (s : State) (p : MgmtPort) :
    IfNext (.next { s with port := p }) (EffectOutsidePort s c) :=
  ifNext_next ⟨s, p, .idle c, rfl, fun h => nomatch h.symm.trans hc⟩

/-! ## What reaches the link -/

/-- What the consumer snoop can do. -/
theorem snoop_cases (p : RequestPacket) (s : State) :
    snoop p s = s ∨ (∃ c', (c' - s.ring.c).toNat ≤ unconsumed s.ring ∧ snoop p s = acceptUpdate c' s) ∨ snoop p s = rejectUpdate s := by
  unfold snoop
  split
  · split
    next c' _ =>
      split
      next h => exact .inr (.inl ⟨c', h, rfl⟩)
      · exact .inr (.inr rfl)
    · exact .inr (.inr rfl)
  · exact .inl rfl

theorem execRequestArrival_effect (p : RequestPacket) (s : State) :
    IfNext (execRequestArrival p s) (EffectOutsidePort s (.requestArrival p)) := by
  unfold execRequestArrival
  refine ifNext_ite (fun _ => ifNext_idle _ s) fun hroom => ?_
  simp only [Bool.or_eq_true, Bool.not_eq_true', decide_eq_true_eq, not_or, Bool.not_eq_false, not_le] at hroom
  obtain ⟨hup, hroom⟩ := hroom
  refine ifNext_ite (fun _ => ?_) fun _ => (Effect.arrived p hup hroom).ifNext
  obtain h | ⟨c', hle, h⟩ | h := snoop_cases p (bufferRequest p s) <;> rw [h]
  · exact (Effect.arrived p hup hroom).ifNext
  · exact (Effect.consumed p c' hup hroom hle).ifNext
  · exact (Effect.consumerRejected p hup hroom).ifNext

theorem execResponseArrival_effect (p : ResponsePacket) (s : State) :
    IfNext (execResponseArrival p s) (EffectOutsidePort s (.responseArrival p)) := by
  unfold execResponseArrival
  refine ifNext_ite (fun _ => ifNext_idle _ s) fun hroom => ?_
  simp only [Bool.or_eq_true, Bool.not_eq_true', decide_eq_true_eq, not_or, Bool.not_eq_false, not_le] at hroom
  exact (Effect.responded p hroom.1 hroom.2).ifNext

/-! ## The head of the Request Buffer -/

/-- The sets that a read carries to its entry hold ENABLED rules only: they are candidates (R48, R50). -/
theorem enabled_of_candidate {kind : Kind} {cls : ClassNo} {p : RequestPacket} {s : State} {i : Nat} (hi : i < 32)
    (h : hasRule (candidates kind cls p s) i = true) : (ruleAt s i).state = .enabled := by
  rw [candidates, hasRule_rulesWith _ _ _ hi, addressTests] at h
  simp only [Bool.and_eq_true, beq_iff_eq] at h
  obtain ⟨⟨⟨⟨hstate, -⟩, -⟩, -⟩, -⟩ := h
  exact hstate

/-- A source clash, where there is one, is signalled and changes nothing else. -/
theorem sourceClash_eq (p : RequestPacket) (s : State) : sourceClash p s = { s with events := (sourceClash p s).events } := by
  unfold sourceClash; split <;> rfl

theorem ruleAt_congr {s t : State} (h : t.rules = s.rules) (i : Nat) : ruleAt t i = ruleAt s i := by rw [ruleAt, h]; rfl

theorem evaluateWrite_effect (b : BufferedRequest) {s v : State} (hb : atHead b s) (hv : SignalledHead b.packet s v) :
    Effect s .requestAtHead (evaluateWrite b.packet v) := by
  unfold evaluateWrite
  exact Effect.requestResolved b _ _ _ _ hb hv

theorem writeAtHead_effect (b : BufferedRequest) {s : State} (hb : atHead b s) :
    Effect s .requestAtHead (writeAtHead b.packet (sourceClash b.packet s)) := by
  unfold writeAtHead
  split
  · dsimp only
    split
    · exact Effect.guardDropped b hb .intrusion
    · exact evaluateWrite_effect b hb .intrusion
  · exact evaluateWrite_effect b hb .clash

theorem readAtHead_effect (b : BufferedRequest) {s : State} (hb : atHead b s)
    (hkey : keyInOrt b.packet.source b.packet.tag (sourceClash b.packet s) = false) :
    Effect s .requestAtHead (readAtHead b.packet (sourceClash b.packet s)) := by
  unfold readAtHead
  dsimp only
  split
  · exact Effect.requestResolved b _ _ _ _ hb .clash
  · rw [sourceClash_eq] at hkey
    refine Effect.readWaits b _ hb hkey fun i hi hcarries => ?_
    have hclash : (sourceClash b.packet s).rules = s.rules := by rw [sourceClash_eq]
    rw [← ruleAt_congr hclash]
    simp only [headCarries, hasRule_and, Bool.or_eq_true, Bool.and_eq_true] at hcarries
    obtain ⟨hcand, -⟩ | ⟨hcand, -⟩ := hcarries
    · exact enabled_of_candidate hi hcand
    · exact enabled_of_candidate hi hcand

theorem wellFormedAtHead_effect (b : BufferedRequest) {s : State} (hb : atHead b s) :
    Effect s .requestAtHead (wellFormedAtHead b.packet (sourceClash b.packet s)) := by
  unfold wellFormedAtHead
  split
  · split
    · exact Effect.duplicate b hb
    next hkey => exact readAtHead_effect b hb (by simpa using hkey)
  · exact writeAtHead_effect b hb

theorem execRequestAtHead_effect (s : State) : IfNext (execRequestAtHead s) (EffectOutsidePort s .requestAtHead) := by
  unfold execRequestAtHead
  split
  next b rest hhead hbuffer =>
    have hb : atHead b s := ⟨hhead, by rw [hbuffer]; rfl⟩
    refine ifNext_ite (fun _ => (Effect.bypassed b hb).ifNext) fun _ => ?_
    split
    · exact (Effect.damaged b hb).ifNext
    · exact (Effect.malformed b hb).ifNext
    · exact (wellFormedAtHead_effect b hb).ifNext
  · exact ifNext_idle _ s

theorem execOrtEntryCreate_effect (s : State) : IfNext (execOrtEntryCreate s) (EffectOutsidePort s .ortEntryCreate) := by
  unfold execOrtEntryCreate
  split
  next w b rest hhead hbuffer =>
    exact ifNext_ite (fun h => (Effect.entryCreated w b hhead (by rw [hbuffer]; rfl) h).ifNext) fun _ => ifNext_idle _ s
  · exact ifNext_idle _ s

theorem execRefusalQueueAdmit_effect (s : State) : IfNext (execRefusalQueueAdmit s) (EffectOutsidePort s .refusalQueueAdmit) := by
  unfold execRefusalQueueAdmit
  split
  next r counts hhead =>
    refine ifNext_ite (fun hroom => ?_) fun _ => ifNext_idle _ s
    cases counts with
    | false => exact (Effect.refusalAdmitted r hhead hroom).ifNext
    | true => exact (Effect.countedRefusalAdmitted r hhead hroom).ifNext
  · exact ifNext_idle _ s

/-! ## The head of the Response Buffer, expiry, room -/

theorem countResponseDamage_signalled (b : BufferedResponse) (e : OrtEntry) (s : State) :
    SignalledResponse b.packet.source s (countResponseDamage b e s) := by
  unfold countResponseDamage
  split
  · exact .damaged
  · exact .sound

theorem resolveByResponse_effect (b : BufferedResponse) (e : OrtEntry) {s v : State} (hb : responseAtHead b s)
    (he : findLive b.packet.source b.packet.tag s = some e) (hv : SignalledResponse b.packet.source s v) :
    Effect s .responseAtHead (resolveByResponse b e v) := by
  unfold resolveByResponse
  refine Effect.responseResolved b e _ _ _ _ hb he ?_
  split
  · exact .refused hv
  · exact .passed hv

theorem execResponseAtHead_effect (s : State) : IfNext (execResponseAtHead s) (EffectOutsidePort s .responseAtHead) := by
  unfold execResponseAtHead
  split
  next b rest hhead hbuffer =>
    have hb : responseAtHead b s := ⟨hhead, by rw [hbuffer]; rfl⟩
    split
    · exact ifNext_ite (fun _ => (Effect.responseBypassed b hb).ifNext) fun _ => (Effect.stray b hb).ifNext
    next e he =>
      refine ifNext_ite (fun _ => (Effect.orphanRestored b e hb he .sound).ifNext) fun _ => ?_
      exact ifNext_ite (fun _ => (Effect.orphanRestored b e hb he (countResponseDamage_signalled b e s)).ifNext)
        fun _ => (resolveByResponse_effect b e hb he (countResponseDamage_signalled b e s)).ifNext
  · exact ifNext_idle _ s

theorem execReadTimerExpiry_effect (src : SourceId) (tag : Tag) (s : State) :
    IfNext (execReadTimerExpiry src tag s) (EffectOutsidePort s (.readTimerExpiry src tag)) := by
  unfold execReadTimerExpiry
  split
  · exact ifNext_idle _ s
  next e he =>
    refine ifNext_ite (fun _ => ?_) fun _ => ifNext_idle _ s
    exact ifNext_ite (fun _ => (Effect.orphanExpired e src tag he).ifNext) fun _ => (Effect.readExpired e src tag he).ifNext

theorem execCaptureQueueAdmit_effect (s : State) : IfNext (execCaptureQueueAdmit s) (EffectOutsidePort s .captureQueueAdmit) := by
  unfold execCaptureQueueAdmit
  refine ifNext_ite (fun hroom => ?_) fun _ => ifNext_idle _ s
  split
  next w hw => exact (Effect.admitted w hroom hw).ifNext
  · exact ifNext_idle _ s

/-! ## The arbiters -/

theorem offeredRequest_eq_some {s : State} {f : Forwarding} (h : offeredRequest s = some f) : s.near.head = .ready f := by
  unfold offeredRequest at h
  split at h
  next g hg => rw [hg, Option.some.inj h]
  · cases h

theorem offeredResponse_eq_some {s : State} {p : ResponsePacket} (h : offeredResponse s = some p) : s.far.head = .ready p := by
  unfold offeredResponse at h
  split at h
  next q hq => rw [hq, Option.some.inj h]
  · cases h

theorem execFarPortGrant_effect (s : State) : IfNext (execFarPortGrant s) (EffectOutsidePort s .farPortGrant) := by
  unfold execFarPortGrant
  refine ifNext_ite (fun ⟨hup, hcredit⟩ => ?_) fun _ => ifNext_idle _ s
  split
  next _ f _ hf => exact (Effect.requestGranted f hup hcredit (offeredRequest_eq_some hf)).ifNext
  next p _ hp => exact (Effect.writerGranted p hup hcredit hp).ifNext
  · exact ifNext_idle _ s

theorem execCaptureWriterStart_effect (s : State) : IfNext (execCaptureWriterStart s) (EffectOutsidePort s .captureWriterStart) := by
  unfold execCaptureWriterStart
  split
  next q rest hidle hqueue =>
    exact ifNext_ite (fun _ => (Effect.writerStarted q rest hidle hqueue).ifNext) fun _ => ifNext_idle _ s
  · exact ifNext_idle _ s

theorem execNearPortResponseGrant_effect (s : State) :
    IfNext (execNearPortResponseGrant s) (EffectOutsidePort s .nearPortResponseGrant) := by
  unfold execNearPortResponseGrant
  refine ifNext_ite (fun ⟨hup, hcredit⟩ => ?_) fun _ => ifNext_idle _ s
  split
  next _ p _ hp => exact (Effect.responseGranted p hup hcredit (offeredResponse_eq_some hp)).ifNext
  next p rest _ hrest => exact (Effect.refusalGranted p rest hup hcredit hrest).ifNext
  · exact ifNext_idle _ s

theorem execFarRequestCredit_effect (n : Nat) (s : State) :
    IfNext (execFarRequestCredit n s) (EffectOutsidePort s (.farRequestCredit n)) :=
  ifNext_ite (fun h => (Effect.farCredit n h).ifNext) fun _ => ifNext_idle _ s

theorem execNearResponseCredit_effect (n : Nat) (s : State) :
    IfNext (execNearResponseCredit n s) (EffectOutsidePort s (.nearResponseCredit n)) :=
  ifNext_ite (fun h => (Effect.nearCredit n h).ifNext) fun _ => ifNext_idle _ s

/-! ## Time -/

theorem execHoldExpiry_effect (side : HoldSide) (s : State) : IfNext (execHoldExpiry side s) (EffectOutsidePort s (.holdExpiry side)) := by
  unfold execHoldExpiry
  split
  · exact ifNext_idle _ s
  · refine ifNext_ite (fun _ => ?_) fun _ => ifNext_idle _ s
    cases side with
    | request => exact Effect.heldRequestExpired.ifNext
    | response => exact Effect.heldResponseExpired.ifNext

theorem execStageWindowExpiry_effect (s : State) : IfNext (execStageWindowExpiry s) (EffectOutsidePort s .stageWindowExpiry) := by
  unfold execStageWindowExpiry
  split
  · refine ifNext_ite (fun _ => ?_) fun _ => ifNext_idle _ s
    split <;> exact (Effect.windowExpired _).ifNext
  · exact ifNext_idle _ s

theorem execMarkPulseEnd_effect (s : State) : IfNext (execMarkPulseEnd s) (EffectOutsidePort s .markPulseEnd) := by
  unfold execMarkPulseEnd
  split
  · exact ifNext_ite (fun _ => Effect.markEnded.ifNext) fun _ => ifNext_idle _ s
  · exact ifNext_idle _ s

theorem execTimeTick_effect (s : State) : IfNext (execTimeTick s) (EffectOutsidePort s .timeTick) :=
  ifNext_ite (fun _ => ifNext_idle _ s) fun h => (Effect.ticked (by simpa using h)).ifNext

theorem execFreezeRequest_effect (s : State) : IfNext (execFreezeRequest s) (EffectOutsidePort s .freezeRequest) := by
  unfold execFreezeRequest
  refine ifNext_ite (fun _ => ifNext_idle _ s) fun _ => ?_
  exact ifNext_ite (fun h => (Effect.freezeTaken (s := s) h).ifNext) fun _ =>
    (Effect.freezeSpent (s := s)).ifNext

/-! ## Resets -/

theorem execLinkReset_effect (s : State) : IfNext (execLinkReset s) (EffectOutsidePort s .linkReset) := by
  unfold execLinkReset
  refine ifNext_ite (fun _ => Effect.linkPinned.ifNext) fun _ => ifNext_ite (fun _ => ifNext_idle _ s) fun _ => ?_
  exact ifNext_next ⟨_, _, .linkCleared, rfl, fun h => nomatch h⟩

theorem execBoardReset_effect (s : State) : IfNext (execBoardReset s) (EffectOutsidePort s .boardReset) := by
  unfold execBoardReset
  exact ifNext_ite (fun _ => Effect.boardPinned.ifNext) fun _ => ifNext_ite (fun _ => ifNext_idle _ s) fun _ =>
    Effect.boardCleared.ifNext

theorem execLinkUp_effect (r : Release) (s : State) : IfNext (execLinkUp r s) (EffectOutsidePort s (.linkUp r)) := by
  unfold execLinkUp
  rw [takeEdges_frame]
  refine ifNext_ite (fun _ => ifNext_next ⟨_, _, .released r, rfl, fun h => nomatch h⟩) fun h => ?_
  simp only [Bool.or_eq_true, not_or, Bool.not_eq_true] at h
  exact ifNext_next ⟨_, _, .broughtUp r h.2, rfl, fun h => nomatch h⟩

/-! ## Frames cut short -/

theorem execFrameAbort_effect (bits : List Bool) (after : List PortEdge) (s : State) :
    IfNext (execFrameAbort bits after s) (EffectOutsidePort s (.frameAbort bits after)) :=
  ifNext_ite (fun _ => ifNext_ite (fun _ => ifNext_port rfl s _) fun _ => ifNext_idle _ s) fun _ _ ht => nomatch ht

theorem execBadCommand_effect (code : Byte) (after : List PortEdge) (s : State) :
    IfNext (execBadCommand code after s) (EffectOutsidePort s (.badCommand code after)) :=
  ifNext_ite (fun _ _ ht => nomatch ht) fun _ => ifNext_ite (fun _ => ifNext_port rfl s _) fun _ => ifNext_idle _ s

/-! ## Every command -/

/-- Whatever next state a command answers is one of the list, but for the Management port. -/
theorem exec_effect (c : Instr) (s : State) : IfNext (exec c s) (EffectOutsidePort s c) := by
  cases c with
  | requestArrival p => exact execRequestArrival_effect p s
  | responseArrival p => exact execResponseArrival_effect p s
  | requestAtHead => exact execRequestAtHead_effect s
  | ortEntryCreate => exact execOrtEntryCreate_effect s
  | refusalQueueAdmit => exact execRefusalQueueAdmit_effect s
  | responseAtHead => exact execResponseAtHead_effect s
  | captureQueueAdmit => exact execCaptureQueueAdmit_effect s
  | farPortGrant => exact execFarPortGrant_effect s
  | captureWriterStart => exact execCaptureWriterStart_effect s
  | nearPortResponseGrant => exact execNearPortResponseGrant_effect s
  | farRequestCredit n => exact execFarRequestCredit_effect n s
  | nearResponseCredit n => exact execNearResponseCredit_effect n s
  | readTimerExpiry src tag => exact execReadTimerExpiry_effect src tag s
  | holdExpiry side => exact execHoldExpiry_effect side s
  | stageWindowExpiry => exact execStageWindowExpiry_effect s
  | markPulseEnd => exact execMarkPulseEnd_effect s
  | timeTick => exact execTimeTick_effect s
  | freezeRequest => exact execFreezeRequest_effect s
  | linkReset => exact execLinkReset_effect s
  | boardReset => exact execBoardReset_effect s
  | powerOn => exact Effect.powerCleared.ifNext
  | linkUp release => exact execLinkUp_effect release s
  | frameAbort bits after => exact execFrameAbort_effect bits after s
  | badCommand code after => exact execBadCommand_effect code after s
  | _ => exact exec_frame_effect rfl s

/-! ## Invariants -/

/-- What a property says does not depend on the Management port or on the queue of commands. -/
structure OutsidePort (P : State → Prop) : Prop where
  port    : ∀ (s : State) (p : MgmtPort), P s → P { s with port := p }
  pending : ∀ (s : State) (q : List Instr), P s → P { s with pending := q }

/-- A property that every effect keeps, every command keeps. -/
theorem OutsidePort.exec_keeps {P : State → Prop} (hP : OutsidePort P) {s : State}
    (h : ∀ c u, Effect s c u → P u) (c : Instr) : IfNext (exec c s) P := by
  intro t ht
  obtain ⟨u, p, hu, rfl, -⟩ := exec_effect c s t ht
  exact hP.port u p (h c u hu)

/-- A step answers what its command answers on the rest of the queue. -/
theorem ifNext_step {s : State} {P : State → Prop} (hidle : P s)
    (h : ∀ c rest, IfNext (exec c { s with pending := rest }) P) : IfNext (step s) P := by
  unfold step
  split
  · exact ifNext_next hidle
  next c rest _ => exact h c rest

/-- The induction on steps, once: a property that every effect keeps, every step keeps. -/
theorem OutsidePort.stepKeeps {P : State → Prop} (hP : OutsidePort P) (h : ∀ s c u, P s → Effect s c u → P u) : StepKeeps P := by
  intro s hs
  refine ifNext_step hs fun c rest => ?_
  have hs' := hP.pending s rest hs
  exact hP.exec_keeps (fun c u hu => h _ c u hs' hu) c

end Sys2Proof.Machine
end

section
/-! PROOFS. The fields of the state after the operations of single rows: what each changes, and that it keeps the rest. -/

namespace Sys2Proof.Machine

set_option Elab.async false

variable (s : State)

@[simp] theorem sourceClash_pins (p : RequestPacket) : (sourceClash p s).pins = s.pins := by unfold sourceClash; split <;> rfl
@[simp] theorem sourceClash_linkUp (p : RequestPacket) : (sourceClash p s).linkUp = s.linkUp := by unfold sourceClash; split <;> rfl
@[simp] theorem sourceClash_near (p : RequestPacket) : (sourceClash p s).near = s.near := by unfold sourceClash; split <;> rfl
@[simp] theorem sourceClash_far (p : RequestPacket) : (sourceClash p s).far = s.far := by unfold sourceClash; split <;> rfl
@[simp] theorem sourceClash_ctrl (p : RequestPacket) : (sourceClash p s).ctrl = s.ctrl := by unfold sourceClash; split <;> rfl
@[simp] theorem sourceClash_time (p : RequestPacket) : (sourceClash p s).time = s.time := by unfold sourceClash; split <;> rfl
@[simp] theorem sourceClash_sources (p : RequestPacket) : (sourceClash p s).sources = s.sources := by unfold sourceClash; split <;> rfl
@[simp] theorem sourceClash_rules (p : RequestPacket) : (sourceClash p s).rules = s.rules := by unfold sourceClash; split <;> rfl
@[simp] theorem sourceClash_ort (p : RequestPacket) : (sourceClash p s).ort = s.ort := by unfold sourceClash; split <;> rfl
@[simp] theorem sourceClash_timers (p : RequestPacket) : (sourceClash p s).timers = s.timers := by unfold sourceClash; split <;> rfl
@[simp] theorem sourceClash_fill (p : RequestPacket) : (sourceClash p s).fill = s.fill := by unfold sourceClash; split <;> rfl
@[simp] theorem sourceClash_counters (p : RequestPacket) : (sourceClash p s).counters = s.counters := by unfold sourceClash; split <;> rfl
@[simp] theorem sourceClash_ring (p : RequestPacket) : (sourceClash p s).ring = s.ring := by unfold sourceClash; split <;> rfl
@[simp] theorem sourceClash_seqr (p : RequestPacket) : (sourceClash p s).seqr = s.seqr := by unfold sourceClash; split <;> rfl
@[simp] theorem sourceClash_port (p : RequestPacket) : (sourceClash p s).port = s.port := by unfold sourceClash; split <;> rfl
@[simp] theorem sourceClash_pending (p : RequestPacket) : (sourceClash p s).pending = s.pending := by unfold sourceClash; split <;> rfl

@[simp] theorem countForwarded_pins (f : Forwarding) : (countForwarded f s).pins = s.pins := by unfold countForwarded; split <;> (try split) <;> rfl
@[simp] theorem countForwarded_linkUp (f : Forwarding) : (countForwarded f s).linkUp = s.linkUp := by unfold countForwarded; split <;> (try split) <;> rfl
@[simp] theorem countForwarded_near (f : Forwarding) : (countForwarded f s).near = s.near := by unfold countForwarded; split <;> (try split) <;> rfl
@[simp] theorem countForwarded_far (f : Forwarding) : (countForwarded f s).far = s.far := by unfold countForwarded; split <;> (try split) <;> rfl
@[simp] theorem countForwarded_ctrl (f : Forwarding) : (countForwarded f s).ctrl = s.ctrl := by unfold countForwarded; split <;> (try split) <;> rfl
@[simp] theorem countForwarded_time (f : Forwarding) : (countForwarded f s).time = s.time := by unfold countForwarded; split <;> (try split) <;> rfl
@[simp] theorem countForwarded_sources (f : Forwarding) : (countForwarded f s).sources = s.sources := by unfold countForwarded; split <;> (try split) <;> rfl
@[simp] theorem countForwarded_rules (f : Forwarding) : (countForwarded f s).rules = s.rules := by unfold countForwarded; split <;> (try split) <;> rfl
@[simp] theorem countForwarded_ort (f : Forwarding) : (countForwarded f s).ort = s.ort := by unfold countForwarded; split <;> (try split) <;> rfl
@[simp] theorem countForwarded_timers (f : Forwarding) : (countForwarded f s).timers = s.timers := by unfold countForwarded; split <;> (try split) <;> rfl
@[simp] theorem countForwarded_fill (f : Forwarding) : (countForwarded f s).fill = s.fill := by unfold countForwarded; split <;> (try split) <;> rfl
@[simp] theorem countForwarded_ring (f : Forwarding) : (countForwarded f s).ring = s.ring := by unfold countForwarded; split <;> (try split) <;> rfl
@[simp] theorem countForwarded_seqr (f : Forwarding) : (countForwarded f s).seqr = s.seqr := by unfold countForwarded; split <;> (try split) <;> rfl
@[simp] theorem countForwarded_events (f : Forwarding) : (countForwarded f s).events = s.events := by unfold countForwarded; split <;> (try split) <;> rfl
@[simp] theorem countForwarded_port (f : Forwarding) : (countForwarded f s).port = s.port := by unfold countForwarded; split <;> (try split) <;> rfl
@[simp] theorem countForwarded_pending (f : Forwarding) : (countForwarded f s).pending = s.pending := by unfold countForwarded; split <;> (try split) <;> rfl

@[simp] theorem startReadTimer_pins (f : Forwarding) : (startReadTimer f s).pins = s.pins := by unfold startReadTimer; split <;> rfl
@[simp] theorem startReadTimer_linkUp (f : Forwarding) : (startReadTimer f s).linkUp = s.linkUp := by unfold startReadTimer; split <;> rfl
@[simp] theorem startReadTimer_near (f : Forwarding) : (startReadTimer f s).near = s.near := by unfold startReadTimer; split <;> rfl
@[simp] theorem startReadTimer_far (f : Forwarding) : (startReadTimer f s).far = s.far := by unfold startReadTimer; split <;> rfl
@[simp] theorem startReadTimer_ctrl (f : Forwarding) : (startReadTimer f s).ctrl = s.ctrl := by unfold startReadTimer; split <;> rfl
@[simp] theorem startReadTimer_time (f : Forwarding) : (startReadTimer f s).time = s.time := by unfold startReadTimer; split <;> rfl
@[simp] theorem startReadTimer_sources (f : Forwarding) : (startReadTimer f s).sources = s.sources := by unfold startReadTimer; split <;> rfl
@[simp] theorem startReadTimer_rules (f : Forwarding) : (startReadTimer f s).rules = s.rules := by unfold startReadTimer; split <;> rfl
@[simp] theorem startReadTimer_timers (f : Forwarding) : (startReadTimer f s).timers = s.timers := by unfold startReadTimer; split <;> rfl
@[simp] theorem startReadTimer_fill (f : Forwarding) : (startReadTimer f s).fill = s.fill := by unfold startReadTimer; split <;> rfl
@[simp] theorem startReadTimer_counters (f : Forwarding) : (startReadTimer f s).counters = s.counters := by unfold startReadTimer; split <;> rfl
@[simp] theorem startReadTimer_ring (f : Forwarding) : (startReadTimer f s).ring = s.ring := by unfold startReadTimer; split <;> rfl
@[simp] theorem startReadTimer_seqr (f : Forwarding) : (startReadTimer f s).seqr = s.seqr := by unfold startReadTimer; split <;> rfl
@[simp] theorem startReadTimer_events (f : Forwarding) : (startReadTimer f s).events = s.events := by unfold startReadTimer; split <;> rfl
@[simp] theorem startReadTimer_port (f : Forwarding) : (startReadTimer f s).port = s.port := by unfold startReadTimer; split <;> rfl
@[simp] theorem startReadTimer_pending (f : Forwarding) : (startReadTimer f s).pending = s.pending := by unfold startReadTimer; split <;> rfl

@[simp] theorem grantRequest_pins (f : Forwarding) : (grantRequest f s).pins = s.pins := by simp [grantRequest]
@[simp] theorem grantRequest_linkUp (f : Forwarding) : (grantRequest f s).linkUp = s.linkUp := by simp [grantRequest]
@[simp] theorem grantRequest_ctrl (f : Forwarding) : (grantRequest f s).ctrl = s.ctrl := by simp [grantRequest]
@[simp] theorem grantRequest_time (f : Forwarding) : (grantRequest f s).time = s.time := by simp [grantRequest]
@[simp] theorem grantRequest_sources (f : Forwarding) : (grantRequest f s).sources = s.sources := by simp [grantRequest]
@[simp] theorem grantRequest_rules (f : Forwarding) : (grantRequest f s).rules = s.rules := by simp [grantRequest]
@[simp] theorem grantRequest_timers (f : Forwarding) : (grantRequest f s).timers = s.timers := by simp [grantRequest]
@[simp] theorem grantRequest_fill (f : Forwarding) : (grantRequest f s).fill = s.fill := by simp [grantRequest]
@[simp] theorem grantRequest_ring (f : Forwarding) : (grantRequest f s).ring = s.ring := by simp [grantRequest]
@[simp] theorem grantRequest_seqr (f : Forwarding) : (grantRequest f s).seqr = s.seqr := by simp [grantRequest]
@[simp] theorem grantRequest_events (f : Forwarding) : (grantRequest f s).events = s.events := by simp [grantRequest]
@[simp] theorem grantRequest_port (f : Forwarding) : (grantRequest f s).port = s.port := by simp [grantRequest]
@[simp] theorem grantRequest_pending (f : Forwarding) : (grantRequest f s).pending = s.pending := by simp [grantRequest]

@[simp] theorem presentProducer_pins : (presentProducer s).pins = s.pins := rfl
@[simp] theorem presentProducer_linkUp : (presentProducer s).linkUp = s.linkUp := rfl
@[simp] theorem presentProducer_near : (presentProducer s).near = s.near := rfl
@[simp] theorem presentProducer_far : (presentProducer s).far = s.far := rfl
@[simp] theorem presentProducer_ctrl : (presentProducer s).ctrl = s.ctrl := rfl
@[simp] theorem presentProducer_time : (presentProducer s).time = s.time := rfl
@[simp] theorem presentProducer_sources : (presentProducer s).sources = s.sources := rfl
@[simp] theorem presentProducer_rules : (presentProducer s).rules = s.rules := rfl
@[simp] theorem presentProducer_ort : (presentProducer s).ort = s.ort := rfl
@[simp] theorem presentProducer_timers : (presentProducer s).timers = s.timers := rfl
@[simp] theorem presentProducer_fill : (presentProducer s).fill = s.fill := rfl
@[simp] theorem presentProducer_counters : (presentProducer s).counters = s.counters := rfl
@[simp] theorem presentProducer_seqr : (presentProducer s).seqr = s.seqr := rfl
@[simp] theorem presentProducer_events : (presentProducer s).events = s.events := rfl
@[simp] theorem presentProducer_port : (presentProducer s).port = s.port := rfl
@[simp] theorem presentProducer_pending : (presentProducer s).pending = s.pending := rfl

@[simp] theorem advanceWriter_pins : (advanceWriter s).pins = s.pins := by unfold advanceWriter; split <;> (try split) <;> (try split) <;> rfl
@[simp] theorem advanceWriter_linkUp : (advanceWriter s).linkUp = s.linkUp := by unfold advanceWriter; split <;> (try split) <;> (try split) <;> rfl
@[simp] theorem advanceWriter_near : (advanceWriter s).near = s.near := by unfold advanceWriter; split <;> (try split) <;> (try split) <;> rfl
@[simp] theorem advanceWriter_far : (advanceWriter s).far = s.far := by unfold advanceWriter; split <;> (try split) <;> (try split) <;> rfl
@[simp] theorem advanceWriter_ctrl : (advanceWriter s).ctrl = s.ctrl := by unfold advanceWriter; split <;> (try split) <;> (try split) <;> rfl
@[simp] theorem advanceWriter_time : (advanceWriter s).time = s.time := by unfold advanceWriter; split <;> (try split) <;> (try split) <;> rfl
@[simp] theorem advanceWriter_sources : (advanceWriter s).sources = s.sources := by unfold advanceWriter; split <;> (try split) <;> (try split) <;> rfl
@[simp] theorem advanceWriter_rules : (advanceWriter s).rules = s.rules := by unfold advanceWriter; split <;> (try split) <;> (try split) <;> rfl
@[simp] theorem advanceWriter_ort : (advanceWriter s).ort = s.ort := by unfold advanceWriter; split <;> (try split) <;> (try split) <;> rfl
@[simp] theorem advanceWriter_timers : (advanceWriter s).timers = s.timers := by unfold advanceWriter; split <;> (try split) <;> (try split) <;> rfl
@[simp] theorem advanceWriter_fill : (advanceWriter s).fill = s.fill := by unfold advanceWriter; split <;> (try split) <;> (try split) <;> rfl
@[simp] theorem advanceWriter_counters : (advanceWriter s).counters = s.counters := by unfold advanceWriter; split <;> (try split) <;> (try split) <;> rfl
@[simp] theorem advanceWriter_seqr : (advanceWriter s).seqr = s.seqr := by unfold advanceWriter; split <;> (try split) <;> (try split) <;> rfl
@[simp] theorem advanceWriter_events : (advanceWriter s).events = s.events := by unfold advanceWriter; split <;> (try split) <;> (try split) <;> rfl
@[simp] theorem advanceWriter_pending : (advanceWriter s).pending = s.pending := by unfold advanceWriter; split <;> (try split) <;> (try split) <;> rfl

@[simp] theorem holdRanOut_pins : (holdRanOut s).pins = s.pins := rfl
@[simp] theorem holdRanOut_linkUp : (holdRanOut s).linkUp = s.linkUp := rfl
@[simp] theorem holdRanOut_near : (holdRanOut s).near = s.near := rfl
@[simp] theorem holdRanOut_far : (holdRanOut s).far = s.far := rfl
@[simp] theorem holdRanOut_ctrl : (holdRanOut s).ctrl = s.ctrl := rfl
@[simp] theorem holdRanOut_time : (holdRanOut s).time = s.time := rfl
@[simp] theorem holdRanOut_sources : (holdRanOut s).sources = s.sources := rfl
@[simp] theorem holdRanOut_rules : (holdRanOut s).rules = s.rules := rfl
@[simp] theorem holdRanOut_ort : (holdRanOut s).ort = s.ort := rfl
@[simp] theorem holdRanOut_timers : (holdRanOut s).timers = s.timers := rfl
@[simp] theorem holdRanOut_fill : (holdRanOut s).fill = s.fill := rfl
@[simp] theorem holdRanOut_ring : (holdRanOut s).ring = s.ring := rfl
@[simp] theorem holdRanOut_seqr : (holdRanOut s).seqr = s.seqr := rfl
@[simp] theorem holdRanOut_port : (holdRanOut s).port = s.port := rfl
@[simp] theorem holdRanOut_pending : (holdRanOut s).pending = s.pending := rfl
@[simp] theorem startReadTimer_ort (f : Forwarding) : (startReadTimer f s).ort = if f.tracked then
    s.ort.map fun e => if holdsKey f.packet.source f.packet.tag e then startTimer s.time s.timers.readTimeout e else e
    else s.ort := by
  unfold startReadTimer; split <;> rfl

@[simp] theorem grantRequest_near (f : Forwarding) : (grantRequest f s).near = leftNear s.near := by simp [grantRequest, leftNear]

@[simp] theorem grantRequest_far (f : Forwarding) : (grantRequest f s).far =
    { s.far with credits := s.far.credits - 1, lastWinner := .request, sent := s.far.sent ++ [f.packet] } := by
  simp [grantRequest]

@[simp] theorem grantRequest_ort (f : Forwarding) : (grantRequest f s).ort = if f.tracked then
    s.ort.map fun e => if holdsKey f.packet.source f.packet.tag e then startTimer s.time s.timers.readTimeout e else e
    else s.ort := by
  simp [grantRequest]

@[simp] theorem presentProducer_ring :
    (presentProducer s).ring = { s.ring with writer := .producer (producerWrite (s.ring.p + 1) s) false } := rfl

@[simp] theorem malformedAtHead_pins (p : RequestPacket) : (malformedAtHead p s).pins = s.pins := by unfold malformedAtHead; dsimp only; split <;> rfl
@[simp] theorem malformedAtHead_linkUp (p : RequestPacket) : (malformedAtHead p s).linkUp = s.linkUp := by unfold malformedAtHead; dsimp only; split <;> rfl
@[simp] theorem malformedAtHead_far (p : RequestPacket) : (malformedAtHead p s).far = s.far := by unfold malformedAtHead; dsimp only; split <;> rfl
@[simp] theorem malformedAtHead_ctrl (p : RequestPacket) : (malformedAtHead p s).ctrl = s.ctrl := by unfold malformedAtHead; dsimp only; split <;> rfl
@[simp] theorem malformedAtHead_time (p : RequestPacket) : (malformedAtHead p s).time = s.time := by unfold malformedAtHead; dsimp only; split <;> rfl
@[simp] theorem malformedAtHead_sources (p : RequestPacket) : (malformedAtHead p s).sources = s.sources := by unfold malformedAtHead; dsimp only; split <;> rfl
@[simp] theorem malformedAtHead_rules (p : RequestPacket) : (malformedAtHead p s).rules = s.rules := by unfold malformedAtHead; dsimp only; split <;> rfl
@[simp] theorem malformedAtHead_ort (p : RequestPacket) : (malformedAtHead p s).ort = s.ort := by unfold malformedAtHead; dsimp only; split <;> rfl
@[simp] theorem malformedAtHead_timers (p : RequestPacket) : (malformedAtHead p s).timers = s.timers := by unfold malformedAtHead; dsimp only; split <;> rfl
@[simp] theorem malformedAtHead_fill (p : RequestPacket) : (malformedAtHead p s).fill = s.fill := by unfold malformedAtHead; dsimp only; split <;> rfl
@[simp] theorem malformedAtHead_ring (p : RequestPacket) : (malformedAtHead p s).ring = s.ring := by unfold malformedAtHead; dsimp only; split <;> rfl
@[simp] theorem malformedAtHead_seqr (p : RequestPacket) : (malformedAtHead p s).seqr = s.seqr := by unfold malformedAtHead; dsimp only; split <;> rfl
@[simp] theorem malformedAtHead_port (p : RequestPacket) : (malformedAtHead p s).port = s.port := by unfold malformedAtHead; dsimp only; split <;> rfl
@[simp] theorem malformedAtHead_pending (p : RequestPacket) : (malformedAtHead p s).pending = s.pending := by unfold malformedAtHead; dsimp only; split <;> rfl

@[simp] theorem damagedAtHead_pins (p : RequestPacket) : (damagedAtHead p s).pins = s.pins := rfl
@[simp] theorem damagedAtHead_linkUp (p : RequestPacket) : (damagedAtHead p s).linkUp = s.linkUp := rfl
@[simp] theorem damagedAtHead_far (p : RequestPacket) : (damagedAtHead p s).far = s.far := rfl
@[simp] theorem damagedAtHead_ctrl (p : RequestPacket) : (damagedAtHead p s).ctrl = s.ctrl := rfl
@[simp] theorem damagedAtHead_time (p : RequestPacket) : (damagedAtHead p s).time = s.time := rfl
@[simp] theorem damagedAtHead_rules (p : RequestPacket) : (damagedAtHead p s).rules = s.rules := rfl
@[simp] theorem damagedAtHead_ort (p : RequestPacket) : (damagedAtHead p s).ort = s.ort := rfl
@[simp] theorem damagedAtHead_timers (p : RequestPacket) : (damagedAtHead p s).timers = s.timers := rfl
@[simp] theorem damagedAtHead_fill (p : RequestPacket) : (damagedAtHead p s).fill = s.fill := rfl
@[simp] theorem damagedAtHead_ring (p : RequestPacket) : (damagedAtHead p s).ring = s.ring := rfl
@[simp] theorem damagedAtHead_seqr (p : RequestPacket) : (damagedAtHead p s).seqr = s.seqr := rfl
@[simp] theorem damagedAtHead_port (p : RequestPacket) : (damagedAtHead p s).port = s.port := rfl
@[simp] theorem damagedAtHead_pending (p : RequestPacket) : (damagedAtHead p s).pending = s.pending := rfl

@[simp] theorem duplicateAtHead_pins (p : RequestPacket) : (duplicateAtHead p s).pins = s.pins := rfl
@[simp] theorem duplicateAtHead_linkUp (p : RequestPacket) : (duplicateAtHead p s).linkUp = s.linkUp := rfl
@[simp] theorem duplicateAtHead_far (p : RequestPacket) : (duplicateAtHead p s).far = s.far := rfl
@[simp] theorem duplicateAtHead_ctrl (p : RequestPacket) : (duplicateAtHead p s).ctrl = s.ctrl := rfl
@[simp] theorem duplicateAtHead_time (p : RequestPacket) : (duplicateAtHead p s).time = s.time := rfl
@[simp] theorem duplicateAtHead_sources (p : RequestPacket) : (duplicateAtHead p s).sources = s.sources := rfl
@[simp] theorem duplicateAtHead_rules (p : RequestPacket) : (duplicateAtHead p s).rules = s.rules := rfl
@[simp] theorem duplicateAtHead_ort (p : RequestPacket) : (duplicateAtHead p s).ort = s.ort := rfl
@[simp] theorem duplicateAtHead_timers (p : RequestPacket) : (duplicateAtHead p s).timers = s.timers := rfl
@[simp] theorem duplicateAtHead_fill (p : RequestPacket) : (duplicateAtHead p s).fill = s.fill := rfl
@[simp] theorem duplicateAtHead_ring (p : RequestPacket) : (duplicateAtHead p s).ring = s.ring := rfl
@[simp] theorem duplicateAtHead_seqr (p : RequestPacket) : (duplicateAtHead p s).seqr = s.seqr := rfl
@[simp] theorem duplicateAtHead_port (p : RequestPacket) : (duplicateAtHead p s).port = s.port := rfl
@[simp] theorem duplicateAtHead_pending (p : RequestPacket) : (duplicateAtHead p s).pending = s.pending := rfl

@[simp] theorem strayAtHead_pins (b : BufferedResponse) : (strayAtHead b s).pins = s.pins := by unfold strayAtHead; dsimp only; split <;> rfl
@[simp] theorem strayAtHead_linkUp (b : BufferedResponse) : (strayAtHead b s).linkUp = s.linkUp := by unfold strayAtHead; dsimp only; split <;> rfl
@[simp] theorem strayAtHead_ctrl (b : BufferedResponse) : (strayAtHead b s).ctrl = s.ctrl := by unfold strayAtHead; dsimp only; split <;> rfl
@[simp] theorem strayAtHead_time (b : BufferedResponse) : (strayAtHead b s).time = s.time := by unfold strayAtHead; dsimp only; split <;> rfl
@[simp] theorem strayAtHead_rules (b : BufferedResponse) : (strayAtHead b s).rules = s.rules := by unfold strayAtHead; dsimp only; split <;> rfl
@[simp] theorem strayAtHead_ort (b : BufferedResponse) : (strayAtHead b s).ort = s.ort := by unfold strayAtHead; dsimp only; split <;> rfl
@[simp] theorem strayAtHead_timers (b : BufferedResponse) : (strayAtHead b s).timers = s.timers := by unfold strayAtHead; dsimp only; split <;> rfl
@[simp] theorem strayAtHead_fill (b : BufferedResponse) : (strayAtHead b s).fill = s.fill := by unfold strayAtHead; dsimp only; split <;> rfl
@[simp] theorem strayAtHead_ring (b : BufferedResponse) : (strayAtHead b s).ring = s.ring := by unfold strayAtHead; dsimp only; split <;> rfl
@[simp] theorem strayAtHead_seqr (b : BufferedResponse) : (strayAtHead b s).seqr = s.seqr := by unfold strayAtHead; dsimp only; split <;> rfl
@[simp] theorem strayAtHead_port (b : BufferedResponse) : (strayAtHead b s).port = s.port := by unfold strayAtHead; dsimp only; split <;> rfl
@[simp] theorem strayAtHead_pending (b : BufferedResponse) : (strayAtHead b s).pending = s.pending := by unfold strayAtHead; dsimp only; split <;> rfl

@[simp] theorem orphanAtHead_pins (b : BufferedResponse) (e : OrtEntry) : (orphanAtHead b e s).pins = s.pins := rfl
@[simp] theorem orphanAtHead_linkUp (b : BufferedResponse) (e : OrtEntry) : (orphanAtHead b e s).linkUp = s.linkUp := rfl
@[simp] theorem orphanAtHead_ctrl (b : BufferedResponse) (e : OrtEntry) : (orphanAtHead b e s).ctrl = s.ctrl := rfl
@[simp] theorem orphanAtHead_time (b : BufferedResponse) (e : OrtEntry) : (orphanAtHead b e s).time = s.time := rfl
@[simp] theorem orphanAtHead_sources (b : BufferedResponse) (e : OrtEntry) : (orphanAtHead b e s).sources = s.sources := rfl
@[simp] theorem orphanAtHead_timers (b : BufferedResponse) (e : OrtEntry) : (orphanAtHead b e s).timers = s.timers := rfl
@[simp] theorem orphanAtHead_fill (b : BufferedResponse) (e : OrtEntry) : (orphanAtHead b e s).fill = s.fill := rfl
@[simp] theorem orphanAtHead_counters (b : BufferedResponse) (e : OrtEntry) : (orphanAtHead b e s).counters = s.counters := rfl
@[simp] theorem orphanAtHead_ring (b : BufferedResponse) (e : OrtEntry) : (orphanAtHead b e s).ring = s.ring := rfl
@[simp] theorem orphanAtHead_seqr (b : BufferedResponse) (e : OrtEntry) : (orphanAtHead b e s).seqr = s.seqr := rfl
@[simp] theorem orphanAtHead_events (b : BufferedResponse) (e : OrtEntry) : (orphanAtHead b e s).events = s.events := rfl
@[simp] theorem orphanAtHead_port (b : BufferedResponse) (e : OrtEntry) : (orphanAtHead b e s).port = s.port := rfl
@[simp] theorem orphanAtHead_pending (b : BufferedResponse) (e : OrtEntry) : (orphanAtHead b e s).pending = s.pending := rfl

@[simp] theorem admitRecord_pins (w : Waiter) : (admitRecord w s).pins = s.pins := by cases w <;> simp [admitRecord]
@[simp] theorem admitRecord_linkUp (w : Waiter) : (admitRecord w s).linkUp = s.linkUp := by cases w <;> simp [admitRecord]
@[simp] theorem admitRecord_ctrl (w : Waiter) : (admitRecord w s).ctrl = s.ctrl := by cases w <;> simp [admitRecord]
@[simp] theorem admitRecord_time (w : Waiter) : (admitRecord w s).time = s.time := by cases w <;> simp [admitRecord]
@[simp] theorem admitRecord_sources (w : Waiter) : (admitRecord w s).sources = s.sources := by cases w <;> simp [admitRecord]
@[simp] theorem admitRecord_timers (w : Waiter) : (admitRecord w s).timers = s.timers := by cases w <;> simp [admitRecord]
@[simp] theorem admitRecord_fill (w : Waiter) : (admitRecord w s).fill = s.fill := by cases w <;> simp [admitRecord]
@[simp] theorem admitRecord_seqr (w : Waiter) : (admitRecord w s).seqr = s.seqr := by cases w <;> simp [admitRecord]
@[simp] theorem admitRecord_events (w : Waiter) : (admitRecord w s).events = s.events := by cases w <;> simp [admitRecord]
@[simp] theorem admitRecord_port (w : Waiter) : (admitRecord w s).port = s.port := by cases w <;> simp [admitRecord]
@[simp] theorem admitRecord_pending (w : Waiter) : (admitRecord w s).pending = s.pending := by cases w <;> simp [admitRecord]

@[simp] theorem disableRule_pins (i : Nat) : (disableRule i s).pins = s.pins := rfl
@[simp] theorem disableRule_linkUp (i : Nat) : (disableRule i s).linkUp = s.linkUp := rfl
@[simp] theorem disableRule_far (i : Nat) : (disableRule i s).far = s.far := rfl
@[simp] theorem disableRule_ctrl (i : Nat) : (disableRule i s).ctrl = s.ctrl := rfl
@[simp] theorem disableRule_time (i : Nat) : (disableRule i s).time = s.time := rfl
@[simp] theorem disableRule_sources (i : Nat) : (disableRule i s).sources = s.sources := rfl
@[simp] theorem disableRule_timers (i : Nat) : (disableRule i s).timers = s.timers := rfl
@[simp] theorem disableRule_fill (i : Nat) : (disableRule i s).fill = s.fill := rfl
@[simp] theorem disableRule_counters (i : Nat) : (disableRule i s).counters = s.counters := rfl
@[simp] theorem disableRule_ring (i : Nat) : (disableRule i s).ring = s.ring := rfl
@[simp] theorem disableRule_seqr (i : Nat) : (disableRule i s).seqr = s.seqr := rfl
@[simp] theorem disableRule_events (i : Nat) : (disableRule i s).events = s.events := rfl
@[simp] theorem disableRule_port (i : Nat) : (disableRule i s).port = s.port := rfl
@[simp] theorem disableRule_pending (i : Nat) : (disableRule i s).pending = s.pending := rfl

theorem malformedAtHead_near (p : RequestPacket) (s : State) :
    (malformedAtHead p s).near = { s.near with head := .waitRefusal (malformedResponse p) false } ∨
    (malformedAtHead p s).near = leftNear s.near := by
  unfold malformedAtHead
  dsimp only
  split
  · exact .inl rfl
  · exact .inr rfl

@[simp] theorem strayAtHead_near (b : BufferedResponse) : (strayAtHead b s).near = s.near := by
  unfold strayAtHead; dsimp only; split <;> rfl

@[simp] theorem orphanAtHead_near (b : BufferedResponse) (e : OrtEntry) : (orphanAtHead b e s).near = s.near := rfl

/-! ## The waiting records -/

theorem mem_of_firstWaiter {next : BitVec 32} {ws : List Waiter} {w : Waiter} (h : firstWaiter next ws = some w) : w ∈ ws := by
  induction ws generalizing w with
  | nil => cases h
  | cons x xs ih =>
    unfold firstWaiter at h
    split at h
    · exact Option.some.inj h ▸ List.mem_cons_self
    next v hv =>
      split at h
      · exact Option.some.inj h ▸ List.mem_cons_of_mem _ (ih hv)
      · exact Option.some.inj h ▸ List.mem_cons_self

theorem request_mem_waiters (r : Record) (next : AfterCapture) (s : State) :
    Waiter.request r next ∈ waiters s ↔ s.near.head = .waitRoom r next := by
  have hentry : Waiter.request r next ∉ s.ort.filterMap entryWaiter := by
    intro h
    obtain ⟨e, -, he⟩ := List.mem_filterMap.mp h
    unfold entryWaiter at he
    split at he <;> cases he
  have hresponse : Waiter.request r next ∉ responseWaiter s := by
    unfold responseWaiter
    split <;> simp
  simp only [waiters, List.mem_append, hentry, hresponse, or_false]
  unfold requestWaiter
  split
  next r' next' h => rw [h]; simp [eq_comm]
  next h => exact ⟨(fun h' => nomatch h'), fun h' => absurd h' (h r next)⟩

theorem response_mem_waiters (r : Record) (p : ResponsePacket) (s : State) :
    Waiter.response r p ∈ waiters s ↔ s.far.head = .waitRoom r p := by
  have hentry : Waiter.response r p ∉ s.ort.filterMap entryWaiter := by
    intro h
    obtain ⟨e, -, he⟩ := List.mem_filterMap.mp h
    unfold entryWaiter at he
    split at he <;> cases he
  have hrequest : Waiter.response r p ∉ requestWaiter s := by
    unfold requestWaiter
    split <;> simp
  simp only [waiters, List.mem_append, hentry, hrequest, or_false, false_or]
  unfold responseWaiter
  split
  next r' p' h => rw [h]; simp [eq_comm]
  next h => exact ⟨(fun h' => nomatch h'), fun h' => absurd h' (h r p)⟩

theorem entryWaiter_eq_some {e : OrtEntry} {w : Waiter} : entryWaiter e = some w ↔ ∃ r, e.phase = .expired r ∧ w = .entry r e := by
  unfold entryWaiter
  split
  next r h => rw [h]; simp [eq_comm]
  next h => exact ⟨(fun h' => nomatch h'), fun ⟨r, hr, _⟩ => absurd hr (h r)⟩

theorem entry_mem_waiters (r : Record) (e : OrtEntry) (s : State) :
    Waiter.entry r e ∈ waiters s ↔ e ∈ s.ort ∧ e.phase = .expired r := by
  have hrequest : Waiter.entry r e ∉ requestWaiter s := by
    unfold requestWaiter
    split <;> simp
  have hresponse : Waiter.entry r e ∉ responseWaiter s := by
    unfold responseWaiter
    split <;> simp
  simp only [waiters, List.mem_append, hrequest, hresponse, false_or, List.mem_filterMap, entryWaiter_eq_some]
  constructor
  · rintro ⟨e', he', r', hr', heq⟩
    cases heq
    exact ⟨he', hr'⟩
  · rintro ⟨he, hr⟩
    exact ⟨e, he, r, hr, rfl⟩

theorem waitRoom_of_firstWaiter {s : State} {r : Record} {next : AfterCapture}
    (h : firstWaiter s.ring.seq (waiters s) = some (.request r next)) : s.near.head = .waitRoom r next :=
  (request_mem_waiters r next s).mp (mem_of_firstWaiter h)

/-! ## The states in which a transaction is resolved -/

/-- What is signalled of the head request before its resolution changes counters and events alone. -/
theorem SignalledHead.eq_with {p : RequestPacket} {s v : State} (h : SignalledHead p s v) :
    v = { s with counters := v.counters, events := v.events } := by
  cases h with
  | clash => unfold sourceClash; split <;> rfl
  | intrusion => unfold sourceClash; split <;> rfl

theorem SignalledHead.pins {p : RequestPacket} {s v : State} (h : SignalledHead p s v) : v.pins = s.pins := by rw [h.eq_with]
theorem SignalledHead.linkUp {p : RequestPacket} {s v : State} (h : SignalledHead p s v) : v.linkUp = s.linkUp := by rw [h.eq_with]
theorem SignalledHead.near {p : RequestPacket} {s v : State} (h : SignalledHead p s v) : v.near = s.near := by rw [h.eq_with]
theorem SignalledHead.far {p : RequestPacket} {s v : State} (h : SignalledHead p s v) : v.far = s.far := by rw [h.eq_with]
theorem SignalledHead.ctrl {p : RequestPacket} {s v : State} (h : SignalledHead p s v) : v.ctrl = s.ctrl := by rw [h.eq_with]
theorem SignalledHead.time {p : RequestPacket} {s v : State} (h : SignalledHead p s v) : v.time = s.time := by rw [h.eq_with]
theorem SignalledHead.sources {p : RequestPacket} {s v : State} (h : SignalledHead p s v) : v.sources = s.sources := by rw [h.eq_with]
theorem SignalledHead.rules {p : RequestPacket} {s v : State} (h : SignalledHead p s v) : v.rules = s.rules := by rw [h.eq_with]
theorem SignalledHead.ort {p : RequestPacket} {s v : State} (h : SignalledHead p s v) : v.ort = s.ort := by rw [h.eq_with]
theorem SignalledHead.timers {p : RequestPacket} {s v : State} (h : SignalledHead p s v) : v.timers = s.timers := by rw [h.eq_with]
theorem SignalledHead.fill {p : RequestPacket} {s v : State} (h : SignalledHead p s v) : v.fill = s.fill := by rw [h.eq_with]
theorem SignalledHead.ring {p : RequestPacket} {s v : State} (h : SignalledHead p s v) : v.ring = s.ring := by rw [h.eq_with]
theorem SignalledHead.seqr {p : RequestPacket} {s v : State} (h : SignalledHead p s v) : v.seqr = s.seqr := by rw [h.eq_with]
theorem SignalledHead.port {p : RequestPacket} {s v : State} (h : SignalledHead p s v) : v.port = s.port := by rw [h.eq_with]
theorem SignalledHead.pending {p : RequestPacket} {s v : State} (h : SignalledHead p s v) : v.pending = s.pending := by rw [h.eq_with]

/-- What is counted of the head response changes the Damaged Counts, the counters and the events alone. -/
theorem SignalledResponse.eq_with {src : SourceId} {s v : State} (h : SignalledResponse src s v) :
    v = { s with sources := v.sources, counters := v.counters, events := v.events } := by
  cases h <;> rfl

theorem SignalledResponse.pins {src : SourceId} {s v : State} (h : SignalledResponse src s v) : v.pins = s.pins := by rw [h.eq_with]
theorem SignalledResponse.linkUp {src : SourceId} {s v : State} (h : SignalledResponse src s v) : v.linkUp = s.linkUp := by rw [h.eq_with]
theorem SignalledResponse.near {src : SourceId} {s v : State} (h : SignalledResponse src s v) : v.near = s.near := by rw [h.eq_with]
theorem SignalledResponse.far {src : SourceId} {s v : State} (h : SignalledResponse src s v) : v.far = s.far := by rw [h.eq_with]
theorem SignalledResponse.ctrl {src : SourceId} {s v : State} (h : SignalledResponse src s v) : v.ctrl = s.ctrl := by rw [h.eq_with]
theorem SignalledResponse.time {src : SourceId} {s v : State} (h : SignalledResponse src s v) : v.time = s.time := by rw [h.eq_with]
theorem SignalledResponse.rules {src : SourceId} {s v : State} (h : SignalledResponse src s v) : v.rules = s.rules := by rw [h.eq_with]
theorem SignalledResponse.ort {src : SourceId} {s v : State} (h : SignalledResponse src s v) : v.ort = s.ort := by rw [h.eq_with]
theorem SignalledResponse.timers {src : SourceId} {s v : State} (h : SignalledResponse src s v) : v.timers = s.timers := by rw [h.eq_with]
theorem SignalledResponse.fill {src : SourceId} {s v : State} (h : SignalledResponse src s v) : v.fill = s.fill := by rw [h.eq_with]
theorem SignalledResponse.ring {src : SourceId} {s v : State} (h : SignalledResponse src s v) : v.ring = s.ring := by rw [h.eq_with]
theorem SignalledResponse.seqr {src : SourceId} {s v : State} (h : SignalledResponse src s v) : v.seqr = s.seqr := by rw [h.eq_with]
theorem SignalledResponse.port {src : SourceId} {s v : State} (h : SignalledResponse src s v) : v.port = s.port := by rw [h.eq_with]
theorem SignalledResponse.pending {src : SourceId} {s v : State} (h : SignalledResponse src s v) : v.pending = s.pending := by rw [h.eq_with]

theorem removeEntry_rules (p : OrtEntry → Bool) (e : OrtEntry) (s : State) :
    (removeEntry p e s).rules = rulesWithout e.pendingRules s.rules := rfl

/-- Before a read is resolved by its response its entry leaves the table; besides, only counts and events have changed. -/
theorem EntryLeft.eq_with {e : OrtEntry} {src : SourceId} {s v : State} (h : EntryLeft e src s v) :
    v = { withoutEntry e s with sources := v.sources, counters := v.counters, events := v.events } := by
  cases h with
  | passed h => rw [h.eq_with]; rfl
  | refused h => rw [h.eq_with]; rfl

theorem EntryLeft.pins {e : OrtEntry} {src : SourceId} {s v : State} (h : EntryLeft e src s v) : v.pins = s.pins := by rw [h.eq_with]; rfl
theorem EntryLeft.linkUp {e : OrtEntry} {src : SourceId} {s v : State} (h : EntryLeft e src s v) : v.linkUp = s.linkUp := by rw [h.eq_with]; rfl
theorem EntryLeft.near {e : OrtEntry} {src : SourceId} {s v : State} (h : EntryLeft e src s v) : v.near = s.near := by rw [h.eq_with]; rfl
theorem EntryLeft.far {e : OrtEntry} {src : SourceId} {s v : State} (h : EntryLeft e src s v) : v.far = s.far := by rw [h.eq_with]; rfl
theorem EntryLeft.ctrl {e : OrtEntry} {src : SourceId} {s v : State} (h : EntryLeft e src s v) : v.ctrl = s.ctrl := by rw [h.eq_with]; rfl
theorem EntryLeft.time {e : OrtEntry} {src : SourceId} {s v : State} (h : EntryLeft e src s v) : v.time = s.time := by rw [h.eq_with]; rfl
theorem EntryLeft.timers {e : OrtEntry} {src : SourceId} {s v : State} (h : EntryLeft e src s v) : v.timers = s.timers := by rw [h.eq_with]; rfl
theorem EntryLeft.fill {e : OrtEntry} {src : SourceId} {s v : State} (h : EntryLeft e src s v) : v.fill = s.fill := by rw [h.eq_with]; rfl
theorem EntryLeft.ring {e : OrtEntry} {src : SourceId} {s v : State} (h : EntryLeft e src s v) : v.ring = s.ring := by rw [h.eq_with]; rfl
theorem EntryLeft.seqr {e : OrtEntry} {src : SourceId} {s v : State} (h : EntryLeft e src s v) : v.seqr = s.seqr := by rw [h.eq_with]; rfl
theorem EntryLeft.port {e : OrtEntry} {src : SourceId} {s v : State} (h : EntryLeft e src s v) : v.port = s.port := by rw [h.eq_with]; rfl
theorem EntryLeft.pending {e : OrtEntry} {src : SourceId} {s v : State} (h : EntryLeft e src s v) : v.pending = s.pending := by rw [h.eq_with]; rfl

/-- A resolution makes no record, or, in ACTIVE, the record with the next Seq. -/
theorem resolve_record (m : RuleSet) (x : Transaction) (refused : Bool) (s : State) :
    ((resolve m x refused s).2 = none ∧ (resolve m x refused s).1.ring.seq = s.ring.seq) ∨
    ∃ r, (resolve m x refused s).2 = some r ∧ r.seq = s.ring.seq ∧ s.ctrl.mode = .active ∧
      (resolve m x refused s).1.ring.seq = s.ring.seq + 1 := by
  unfold resolve
  dsimp only
  split
  next hmode =>
    split
    · refine .inr ⟨_, rfl, by simp [createRecord, newRecord], hmode, ?_⟩
      unfold createRecord
      dsimp only
      split <;> simp
    · exact .inl ⟨rfl, by simp⟩
  · exact .inl ⟨rfl, by simp⟩

end Sys2Proof.Machine
end

section
/-! PROOFS. How the near side follows every command, and the keys of the Outstanding Read Table (R77, R81). -/

namespace Sys2Proof.Machine

set_option Elab.async false

/-! ## The near side -/

/-- The near side after a command that puts no read into step 5: its head is backed by a packet, and a read that waits for its entry is the
one that waited before, with no rule more in its sets. -/
structure NearFollows (n n' : NearPort) : Prop where
  backed  : n'.buffer = [] → n'.head = .fresh
  waits   : ∀ w' b, n'.head = .waitOrt w' → n'.buffer.head? = some b → ∃ w, n.head = .waitOrt w ∧ n.buffer.head? = some b
  carries : ∀ i, headCarries n'.head i = true → headCarries n.head i = true

theorem headCarries_of_not_waiting {h : RequestHead} (hw : ∀ w, h ≠ .waitOrt w) (i : Nat) : headCarries h i = false := by
  cases h with
  | waitOrt w => exact absurd rfl (hw w)
  | _ => rfl

theorem NearFollows.of_head_buffer {n n' : NearPort} (hb : n.buffer = [] → n.head = .fresh) (hhead : n'.head = n.head)
    (hbuffer : n'.buffer = n.buffer) : NearFollows n n' where
  backed h := by rw [hhead]; exact hb (hbuffer ▸ h)
  waits w' b hw hbuf := ⟨w', hhead ▸ hw, hbuffer ▸ hbuf⟩
  carries i h := by rwa [hhead] at h

theorem NearFollows.refl {n : NearPort} (hb : n.buffer = [] → n.head = .fresh) : NearFollows n n := .of_head_buffer hb rfl rfl

theorem NearFollows.trans {n n' n'' : NearPort} (h : NearFollows n n') (h' : NearFollows n' n'') : NearFollows n n'' where
  backed := h'.backed
  waits w b hw hb := by
    obtain ⟨w', hw', hb'⟩ := h'.waits w b hw hb
    exact h.waits w' b hw' hb'
  carries i hi := h.carries i (h'.carries i hi)

/-- The head request leaves, or stands at a position that is not step 5. -/
theorem NearFollows.of_moved {n n' : NearPort} (hm : NearMoved n n') (hn : n.buffer ≠ []) (hw : ∀ w, n'.head ≠ .waitOrt w) :
    NearFollows n n' where
  backed h := by
    obtain rfl | ⟨k, -, rfl⟩ := hm
    · rfl
    · exact absurd h hn
  waits w' _ h _ := absurd h (hw w')
  carries i h := by rw [headCarries_of_not_waiting hw] at h; cases h

theorem NearFollows.of_position {n n' : NearPort} {k : RequestHead} (hn : n.buffer ≠ []) (hk : k ≠ .fresh) (hw : ∀ w, k ≠ .waitOrt w)
    (hn' : n' = { n with head := k }) : NearFollows n n' :=
  .of_moved (.inr ⟨k, hk, hn'⟩) hn (by rw [hn']; exact hw)

theorem NearFollows.of_cleared {n n' : NearPort} (hhead : n'.head = .fresh) : NearFollows n n' where
  backed _ := hhead
  waits _ _ h _ := by rw [hhead] at h; cases h
  carries _ h := by rw [hhead] at h; cases h

theorem NearFollows.of_left {n : NearPort} (hn : n.buffer ≠ []) : NearFollows n (leftNear n) :=
  .of_moved (.inl rfl) hn fun _ h => nomatch h

theorem NearFollows.of_arrival {n : NearPort} (hb : n.buffer = [] → n.head = .fresh) (b : BufferedRequest) (g : Nat) :
    NearFollows n { n with buffer := n.buffer ++ [b], granted := g } where
  backed h := by simp at h
  waits w b' hw hbuf := by
    refine ⟨w, hw, ?_⟩
    cases hl : n.buffer with
    | nil => rw [hb hl] at hw; cases hw
    | cons c l => simpa [hl] using hbuf
  carries _ h := h

theorem buffer_ne_nil_of_head {n : NearPort} (hb : n.buffer = [] → n.head = .fresh) (h : n.head ≠ .fresh) : n.buffer ≠ [] :=
  fun hn => h (hb hn)

theorem buffer_ne_nil_of_atHead {b : BufferedRequest} {s : State} (h : atHead b s) : s.near.buffer ≠ [] := by
  intro hn
  have hb := h.2
  rw [hn] at hb
  cases hb

/-! ### The shared operations -/

theorem continueRequest_notWaiting (next : AfterCapture) (s : State) (w : WaitingRead) :
    (continueRequest next s).near.head ≠ .waitOrt w := by
  cases next <;> exact fun h => nomatch h

theorem placeRequest_notWaiting (r : Record) (next : AfterCapture) (s : State) (w : WaitingRead) :
    (placeRequest r next s).near.head ≠ .waitOrt w := by
  unfold placeRequest
  split
  · exact continueRequest_notWaiting next _ w
  · exact fun h => nomatch h

theorem captureRequest_notWaiting (r : Option Record) (next : AfterCapture) (s : State) (w : WaitingRead) :
    (captureRequest r next s).near.head ≠ .waitOrt w := by
  unfold captureRequest
  split
  · exact continueRequest_notWaiting next s w
  · split
    · exact placeRequest_notWaiting _ next s w
    · exact fun h => nomatch h
    · exact continueRequest_notWaiting next _ w

theorem captureRequest_follows (r : Option Record) (next : AfterCapture) (s : State) (hn : s.near.buffer ≠ []) :
    NearFollows s.near (captureRequest r next s).near :=
  .of_moved (captureRequest_moves r next s) hn (captureRequest_notWaiting r next s)

theorem abandonHeldRequest_follows (s : State) (hb : headBacked s) : NearFollows s.near (abandonHeldRequest s).near := by
  unfold abandonHeldRequest
  split
  next h next hhead =>
    have hn := buffer_ne_nil_of_head hb (by rw [hhead]; exact fun h => nomatch h)
    exact .of_moved (continueRequest_moves next (loseRecord s)) hn (continueRequest_notWaiting next _)
  · exact .refl hb

theorem abandonHeld_follows (s : State) (hb : headBacked s) : NearFollows s.near (abandonHeld s).near := by
  rw [abandonHeld, abandonHeldResponse_near]
  exact abandonHeldRequest_follows s hb

theorem releaseRequest_follows (s : State) (hb : headBacked s) : NearFollows s.near (releaseRequest s).near := by
  unfold releaseRequest
  split
  next h next hhead =>
    have hn := buffer_ne_nil_of_head hb (by rw [hhead]; exact fun h => nomatch h)
    split
    · exact .of_moved (placeRequest_moves _ next s) hn (placeRequest_notWaiting _ next s)
    · exact .refl hb
  · exact .refl hb

theorem offerFreedSlots_follows (s : State) (hb : headBacked s) : NearFollows s.near (offerFreedSlots s).near := by
  unfold offerFreedSlots
  split
  · have hr : (releaseResponse s).near = s.near := releaseResponse_near s
    rw [← hr]
    exact releaseRequest_follows _ (by rw [headBacked, hr]; exact hb)
  · rw [releaseResponse_near]
    exact releaseRequest_follows s hb

theorem acceptUpdate_follows (c' : BitVec 16) (s : State) (hb : headBacked s) :
    NearFollows s.near (acceptUpdate c' s).near :=
  offerFreedSlots_follows
    { s with ring := { s.ring with c := c', overrun := s.ring.overrun && !s.ring.overrunSeen, overrunSeen := false } } hb

theorem orphanHead_follows {n : NearPort} (hb : n.buffer = [] → n.head = .fresh) :
    NearFollows n { n with head := orphanHead n.head } where
  backed h := by rw [hb h]; rfl
  waits w' b hw hbuf := by
    cases hh : n.head with
    | waitOrt w => exact ⟨w, rfl, hbuf⟩
    | _ => rw [hh] at hw; cases hw
  carries i h := by
    cases hh : n.head with
    | waitOrt w => simp [hh, orphanHead, headCarries] at h
    | _ => rw [hh] at h; cases h

theorem headWithout_follows {n : NearPort} (hb : n.buffer = [] → n.head = .fresh) (j : Nat) (hj : j < 32) :
    NearFollows n { n with head := headWithout j n.head } where
  backed h := by rw [hb h]; rfl
  waits w' b hw hbuf := by
    cases hh : n.head with
    | waitOrt w => exact ⟨w, rfl, hbuf⟩
    | _ => rw [hh] at hw; cases hw
  carries i h := by
    cases hh : n.head with
    | waitOrt w =>
      rw [hh] at h
      simp only [headWithout, headCarries, hasRule_withoutRule _ _ _ hj, Bool.or_eq_true, Bool.and_eq_true] at h ⊢
      exact h.imp And.left And.left
    | _ => rw [hh] at h; cases h

theorem enterMode_follows (m : Mode) (s : State) (hb : headBacked s) : NearFollows s.near (enterMode m s).near := by
  cases m with
  | active => exact .refl hb
  | frozen => exact abandonHeld_follows s hb
  | bypass =>
    have h := orphanHead_follows hb
    exact h.trans (abandonHeld_follows
      (clearUses { s with ort := s.ort.map orphan, near := { s.near with head := orphanHead s.near.head } }) h.backed)

/-- The effects that do not touch the near side, and those that leave it as a reset does, aside: the head request moves on, the request
arrives, or the read carries fewer rules. -/
theorem Effect.near_follows {s u : State} {c : Instr} (h : Effect s c u) (hb : headBacked s) : NearFollows s.near u.near ∨
    ∃ b w, atHead b s ∧ keyInOrt b.packet.source b.packet.tag s = false ∧
      (∀ i, i < 32 → headCarries (.waitOrt w) i = true → (ruleAt s i).state = .enabled) ∧
      u = setHead (.waitOrt w) (sourceClash b.packet s) := by
  have same : ∀ {n' : NearPort}, n'.head = s.near.head → n'.buffer = s.near.buffer → NearFollows s.near n' := .of_head_buffer hb
  have admits : ∀ {r counts} (q : List ResponsePacket), s.near.head = .waitRefusal r counts →
      NearFollows s.near (leftNear { s.near with refusals := q }) := fun q hhead =>
    (same (n' := { s.near with refusals := q }) rfl rfl).trans
      (.of_left (n := { s.near with refusals := q }) (buffer_ne_nil_of_head hb (by rw [hhead]; exact fun h => nomatch h)))
  cases h with
  | readWaits b w hatHead hkey hw => exact .inr ⟨b, w, hatHead, hkey, hw, rfl⟩
  | arrived p => exact .inl (.of_arrival hb _ _)
  | consumed p c' =>
    have h : NearFollows s.near (bufferRequest p s).near := .of_arrival hb _ _
    exact .inl (h.trans (acceptUpdate_follows c' _ h.backed))
  | consumerRejected p => exact .inl (by rw [rejectUpdate_near]; exact .of_arrival hb _ _)
  | bypassed b hatHead =>
    exact .inl (.of_position (buffer_ne_nil_of_atHead hatHead) (k := .ready _) (fun h => nomatch h) (fun _ h => nomatch h) rfl)
  | damaged b hatHead =>
    exact .inl (.of_position (buffer_ne_nil_of_atHead hatHead) (k := .ready _) (fun h => nomatch h) (fun _ h => nomatch h) rfl)
  | malformed b hatHead =>
    left
    rcases malformedAtHead_near b.packet (sourceClash b.packet s) with h | h <;> rw [h, sourceClash_near]
    · exact .of_position (buffer_ne_nil_of_atHead hatHead) (k := .waitRefusal _ _) (fun h => nomatch h) (fun _ h => nomatch h) rfl
    · exact .of_left (buffer_ne_nil_of_atHead hatHead)
  | duplicate b hatHead =>
    exact .inl (.of_position (buffer_ne_nil_of_atHead hatHead) (k := .ready (untracked b.packet true)) (fun h => nomatch h)
      (fun _ h => nomatch h) (by simp [duplicateAtHead]))
  | guardDropped b hatHead hv =>
    rw [count_near, popRequest_near, hv.eq_with]
    exact .inl (.of_left (buffer_ne_nil_of_atHead hatHead))
  | @requestResolved b m x refused next v hatHead hv =>
    have hnear : (resolve m x refused v).1.near = s.near := by rw [resolve_near, hv.eq_with]
    rw [← hnear]
    exact .inl (captureRequest_follows _ next _ (hnear ▸ buffer_ne_nil_of_atHead hatHead))
  | entryCreated w b hhead hbuffer =>
    have hn := buffer_ne_nil_of_head hb (by rw [hhead]; exact fun h => nomatch h)
    exact .inl (.of_position hn (k := .ready _) (fun h => nomatch h) (fun _ h => nomatch h) rfl)
  | refusalAdmitted r hhead => exact .inl (admits _ hhead)
  | countedRefusalAdmitted r hhead => exact .inl (admits _ hhead)
  | admitted w _ hw =>
    left
    cases w with
    | request r next =>
      have hhead := waitRoom_of_firstWaiter hw
      have hn := buffer_ne_nil_of_head hb (by rw [hhead]; exact fun h => nomatch h)
      exact .of_moved (continueRequest_moves next (enqueue r s)) hn (continueRequest_notWaiting next _)
    | response r p => exact same rfl rfl
    | entry r e => exact same rfl rfl
  | requestGranted f _ _ hhead =>
    have hn := buffer_ne_nil_of_head hb (by rw [hhead]; exact fun h => nomatch h)
    rw [grantRequest_near]
    exact .inl (.of_left hn)
  | writerGranted p =>
    rw [advanceWriter_near]
    exact .inl (same rfl rfl)
  | stray b => exact .inl (by rw [strayAtHead_near]; exact same rfl rfl)
  | orphanRestored b e _ _ hv => exact .inl (by rw [orphanAtHead_near, hv.eq_with]; exact same rfl rfl)
  | responseResolved b e m x refused out _ _ hv =>
    exact .inl (by rw [captureResponse_near, resolve_near, hv.eq_with]; exact same rfl rfl)
  | readExpired e => exact .inl (by rw [expire_near]; exact same rfl rfl)
  | heldRequestExpired => exact .inl (abandonHeldRequest_follows (holdRanOut s) hb)
  | heldResponseExpired => exact .inl (by rw [abandonHeldResponse_near]; exact same rfl rfl)
  | freezeTaken _ => exact .inl (enterMode_follows .frozen
      { s with ctrl := { s.ctrl with freezeRequests := s.ctrl.freezeRequests - 1 } } hb)
  | modeEntered m => exact .inl (enterMode_follows m s hb)
  | ruleDisabled index _ hindex => exact .inl (headWithout_follows hb _ (by omega))
  | linkCleared | boardCleared | powerCleared => exact .inl (.of_cleared rfl)
  | _ => exact .inl (same rfl rfl)

theorem Effect.keeps_headBacked {s u : State} {c : Instr} (h : Effect s c u) (hb : headBacked s) : headBacked u := by
  obtain h | ⟨b, w, hb, -, -, rfl⟩ := h.near_follows hb
  · exact h.backed
  · exact fun hn => absurd (by simpa using hn) (buffer_ne_nil_of_atHead hb)

end Sys2Proof.Machine
end

section
/-! PROOFS. How the Outstanding Read Table and the Use Counts follow every command (R48, R49, R77, R81). -/

namespace Sys2Proof.Machine

set_option Elab.async false

/-! ## Keys -/

/-- The key of an entry (R77). -/
def keyOf (e : OrtEntry) : SourceId × Tag := (e.source, e.tag)

theorem holdsKey_iff (src : SourceId) (tag : Tag) (e : OrtEntry) : holdsKey src tag e = true ↔ keyOf e = (src, tag) := by
  simp [holdsKey, keyOf]

theorem keyInOrt_eq_false (src : SourceId) (tag : Tag) (s : State) :
    keyInOrt src tag s = false ↔ (src, tag) ∉ s.ort.map keyOf := by
  simp [keyInOrt, keyOf, holdsKey]

theorem unique_iff_nodup (l : List OrtEntry) :
    (l.Pairwise fun a b => ¬ (a.source = b.source ∧ a.tag = b.tag)) ↔ (l.map keyOf).Nodup := by
  simp [List.Nodup, List.pairwise_map, keyOf]

/-- With distinct keys, the entry that a search finds stands alone under its key. -/
theorem split_of_find {p : OrtEntry → Bool} {e : OrtEntry} {l : List OrtEntry} (h : l.find? p = some e) :
    ∃ l₁ l₂, l = l₁ ++ e :: l₂ ∧ l.eraseP p = l₁ ++ l₂ := by
  obtain ⟨hp, l₁, l₂, rfl, hl₁⟩ := List.find?_eq_some_iff_append.mp h
  refine ⟨l₁, l₂, rfl, ?_⟩
  rw [List.eraseP_append_right _ (by simpa using hl₁), List.eraseP_cons_of_pos hp]

theorem keyOf_ne_of_nodup {e x : OrtEntry} {l₁ l₂ : List OrtEntry} (h : ((l₁ ++ e :: l₂).map keyOf).Nodup) (hx : x ∈ l₁ ++ l₂) :
    keyOf x ≠ keyOf e := by
  rw [List.map_append, List.map_cons, List.nodup_middle, List.nodup_cons, ← List.map_append] at h
  exact fun heq => h.1 (heq ▸ List.mem_map_of_mem hx)

/-- A change of the entries with a key changes one entry. -/
theorem changeEntry_split {e : OrtEntry} {l₁ l₂ : List OrtEntry} (f : OrtEntry → OrtEntry) {s : State} (hs : s.ort = l₁ ++ e :: l₂)
    (hu : (s.ort.map keyOf).Nodup) : (changeEntry e.source e.tag f s).ort = l₁ ++ f e :: l₂ := by
  have others : ∀ l : List OrtEntry, (∀ x ∈ l, x ∈ l₁ ++ l₂) → l.map (fun x => if holdsKey e.source e.tag x then f x else x) = l := by
    intro l hl
    refine (List.map_congr_left fun x hx => ?_).trans (List.map_id l)
    rw [if_neg fun h => keyOf_ne_of_nodup (hs ▸ hu) (hl x hx) ((holdsKey_iff _ _ _).mp h), id]
  have he : holdsKey e.source e.tag e = true := (holdsKey_iff _ _ _).mpr rfl
  rw [changeEntry_ort, hs, List.map_append, List.map_cons, if_pos he, others l₁ fun x hx => List.mem_append_left _ hx,
    others l₂ fun x hx => List.mem_append_right _ hx]

/-! ## The table and the Use Counts -/

/-- A change of an entry that keeps its key, its sets and whether it is in EXPIRED. -/
def KeepsEntry (f : OrtEntry → OrtEntry) : Prop :=
  ∀ e, keyOf (f e) = keyOf e ∧ (f e).pendingRules = e.pendingRules ∧ (f e).noData = e.noData ∧ isExpired (f e) = isExpired e

/-- What happens to the Outstanding Read Table and to the rules at a command. -/
inductive Tracks (s u : State) : Prop
  | changed (f : OrtEntry → OrtEntry) : KeepsEntry f → u.ort = s.ort.map f → u.rules = s.rules → Tracks s u
  | created (w : WaitingRead) (b : BufferedRequest) : s.near.head = .waitOrt w → s.near.buffer.head? = some b →
      u.ort = s.ort ++ [newEntry b.packet w] →
      u.rules = s.rules.mapIdx (fun i r => if hasRule w.pendingRules i then { r with useCount := r.useCount + 1 } else r) →
      (∀ x, u.near.head ≠ .waitOrt x) → Tracks s u
  | removed (l₁ l₂ : List OrtEntry) (e : OrtEntry) : s.ort = l₁ ++ e :: l₂ → u.ort = l₁ ++ l₂ →
      u.rules = rulesWithout e.pendingRules s.rules → Tracks s u
  | expired (l₁ l₂ : List OrtEntry) (e : OrtEntry) (r : Record) : s.ort = l₁ ++ e :: l₂ →
      u.ort = l₁ ++ { e with phase := .expired r, pendingRules := 0 } :: l₂ →
      u.rules = rulesWithout e.pendingRules s.rules → Tracks s u
  | orphaned : u.ort = s.ort.map orphan → u.rules = s.rules.mapIdx (fun _ r => { r with useCount := 0 }) →
      (∀ i, headCarries u.near.head i = false) → Tracks s u
  | disabled (i : Nat) : i < 32 → u.ort = s.ort.map (entryWithout i) →
      u.rules = s.rules.set i { ruleAt s i with state := .disabled, useCount := 0 } → u.near.head = headWithout i s.near.head → Tracks s u
  | ruleSet (i : Nat) (r : Rule) : i < 32 → (r.useCount = (ruleAt s i).useCount ∨ r.useCount = 0) → (ruleAt s i).state ≠ .enabled →
      u.ort = s.ort → u.rules = s.rules.set i r → Tracks s u
  | cleared : u.ort = [] → (∀ i, i < 32 → (ruleAt u i).useCount = 0) → u.near.head = .fresh → Tracks s u

theorem Tracks.same {s u : State} (ho : u.ort = s.ort) (hr : u.rules = s.rules) : Tracks s u :=
  .changed id (fun _ => ⟨rfl, rfl, rfl, rfl⟩) (by rw [ho, List.map_id]) hr

/-- The table and the rules move as they move from a state with the same table, rules and near side. -/
theorem Tracks.of_same {s t u : State} (hn : t.near = s.near) (ho : t.ort = s.ort) (hr : t.rules = s.rules) (h : Tracks t u) :
    Tracks s u := by
  have hrule : ∀ i, ruleAt t i = ruleAt s i := fun i => by rw [ruleAt, hr, ruleAt]
  cases h with
  | changed f hf h₁ h₂ => exact .changed f hf (ho ▸ h₁) (hr ▸ h₂)
  | created w b hw hb h₁ h₂ h₃ => exact .created w b (hn ▸ hw) (hn ▸ hb) (ho ▸ h₁) (hr ▸ h₂) h₃
  | removed l₁ l₂ e hs h₁ h₂ => exact .removed l₁ l₂ e (ho ▸ hs) h₁ (hr ▸ h₂)
  | expired l₁ l₂ e r hs h₁ h₂ => exact .expired l₁ l₂ e r (ho ▸ hs) h₁ (hr ▸ h₂)
  | orphaned h₁ h₂ h₃ => exact .orphaned (ho ▸ h₁) (hr ▸ h₂) h₃
  | disabled i hi h₁ h₂ h₃ => exact .disabled i hi (ho ▸ h₁) (by rw [h₂, hr, hrule]) (hn ▸ h₃)
  | ruleSet i r hi hu hs h₁ h₂ => exact .ruleSet i r hi (hrule i ▸ hu) (hrule i ▸ hs) (ho ▸ h₁) (hr ▸ h₂)
  | cleared h₁ h₂ h₃ => exact .cleared h₁ h₂ h₃

/-- What comes after keeps the table, the rules and the head. -/
theorem Tracks.congr {s t u : State} (hn : u.near.head = t.near.head) (ho : u.ort = t.ort) (hr : u.rules = t.rules) (h : Tracks s t) :
    Tracks s u := by
  have hrule : ∀ i, ruleAt u i = ruleAt t i := fun i => by rw [ruleAt, hr, ruleAt]
  cases h with
  | changed f hf h₁ h₂ => exact .changed f hf (ho ▸ h₁) (hr ▸ h₂)
  | created w b hw hb h₁ h₂ h₃ => exact .created w b hw hb (ho ▸ h₁) (hr ▸ h₂) (hn ▸ h₃)
  | removed l₁ l₂ e hs h₁ h₂ => exact .removed l₁ l₂ e hs (ho ▸ h₁) (hr ▸ h₂)
  | expired l₁ l₂ e r hs h₁ h₂ => exact .expired l₁ l₂ e r hs (ho ▸ h₁) (hr ▸ h₂)
  | orphaned h₁ h₂ h₃ => exact .orphaned (ho ▸ h₁) (hr ▸ h₂) (hn ▸ h₃)
  | disabled i hi h₁ h₂ h₃ => exact .disabled i hi (ho ▸ h₁) (hr ▸ h₂) (hn ▸ h₃)
  | ruleSet i r hi hu hs h₁ h₂ => exact .ruleSet i r hi hu hs (ho ▸ h₁) (hr ▸ h₂)
  | cleared h₁ h₂ h₃ => exact .cleared (ho ▸ h₁) (fun i hi => by rw [hrule]; exact h₂ i hi) (hn ▸ h₃)

theorem keepsEntry_answer (src : SourceId) (tag : Tag) (now : Ticks) :
    KeepsEntry fun e => if holdsKey src tag e then answerEntry now e else e := by
  intro e
  dsimp only
  split
  · obtain ⟨h₁, h₂, h₃, h₄, h₅⟩ := answerEntry_keeps now e
    exact ⟨Prod.ext h₁ h₂, h₃, h₄, h₅⟩
  · exact ⟨rfl, rfl, rfl, rfl⟩

theorem keepsEntry_start (src : SourceId) (tag : Tag) (now : Ticks) (limit : BitVec 16) :
    KeepsEntry fun e => if holdsKey src tag e then startTimer now limit e else e := by
  intro e
  dsimp only
  split
  · obtain ⟨h₁, h₂, h₃, h₄, h₅⟩ := startTimer_keeps now limit e
    exact ⟨Prod.ext h₁ h₂, h₃, h₄, h₅⟩
  · exact ⟨rfl, rfl, rfl, rfl⟩

theorem findLive_self {src : SourceId} {tag : Tag} {e : OrtEntry} {s : State} (h : findLive src tag s = some e) :
    findLive e.source e.tag s = some e := by
  obtain ⟨-, rfl, rfl, -⟩ := findLive_some h
  exact h

theorem removeEntry_tracks {p : OrtEntry → Bool} {e : OrtEntry} {s : State} (h : s.ort.find? p = some e) :
    Tracks s (removeEntry p e s) := by
  obtain ⟨l₁, l₂, hs, he⟩ := split_of_find h
  exact .removed l₁ l₂ e hs (by rw [removeEntry_ort, he]) rfl

theorem keepExpired_tracks {e : OrtEntry} (r : Record) {s : State} (he : e ∈ s.ort) (hu : (s.ort.map keyOf).Nodup) :
    Tracks s (keepExpired e r s) := by
  obtain ⟨l₁, l₂, hs⟩ := List.append_of_mem he
  exact .expired l₁ l₂ e r hs (changeEntry_split _ hs hu) rfl

theorem placeExpiry_tracks {e : OrtEntry} (r : Option Record) {s : State} (h : findLive e.source e.tag s = some e)
    (hu : (s.ort.map keyOf).Nodup) : Tracks s (placeExpiry e r s) := by
  have leave : ∀ t : State, t.near = s.near → t.ort = s.ort → t.rules = s.rules →
      Tracks s (removeEntry (holdsKeyLive e.source e.tag) e t) := fun t hn ho hr =>
    (removeEntry_tracks (by rw [ho]; exact h)).of_same hn ho hr
  unfold placeExpiry
  dsimp only
  split
  · exact leave s rfl rfl rfl
  · split
    · split
      · exact leave _ rfl rfl rfl
      · exact keepExpired_tracks _ (findLive_some h).1 hu
    · exact leave _ rfl rfl rfl
    · exact leave _ (by simp) (by simp) (by simp)

theorem expire_tracks {e : OrtEntry} {s : State} (h : findLive e.source e.tag s = some e) (hu : (s.ort.map keyOf).Nodup) :
    Tracks s (expire e s) := by
  unfold expire
  dsimp only
  split <;> refine Tracks.of_same (by simp) (by simp) (by simp) (placeExpiry_tracks _ ?_ (by simpa using hu)) <;>
    simpa [findLive] using h

theorem EntryLeft.tracks {e : OrtEntry} {src : SourceId} {s v : State} (h : EntryLeft e src s v)
    (hf : findLive e.source e.tag s = some e) : Tracks s v := by
  obtain ⟨l₁, l₂, hs, he⟩ := split_of_find hf
  rw [h.eq_with]
  exact .removed l₁ l₂ e hs he rfl

/-- An entry in EXPIRED is the one that a search under its key finds. -/
theorem find_expired {r : Record} {e : OrtEntry} {s : State} (he : e ∈ s.ort) (hr : e.phase = .expired r)
    (hu : (s.ort.map keyOf).Nodup) : s.ort.find? (holdsKeyExpired e.source e.tag) = some e := by
  obtain ⟨l₁, l₂, hs⟩ := List.append_of_mem he
  refine List.find?_eq_some_iff_append.mpr ⟨by simp [holdsKeyExpired, holdsKey, isExpired, hr], l₁, l₂, hs, fun x hx => ?_⟩
  have hne := keyOf_ne_of_nodup (hs ▸ hu) (List.mem_append_left l₂ hx)
  have : holdsKey e.source e.tag x = false :=
    Bool.eq_false_iff.mpr fun h => hne ((holdsKey_iff _ _ _).mp h)
  simp [holdsKeyExpired, this]

theorem headCarries_orphanHead (h : RequestHead) (i : Nat) : headCarries (orphanHead h) i = false := by
  cases h <;> simp [orphanHead, headCarries]

theorem enterBypass_tracks {s : State} (hb : headBacked s) : Tracks s (enterBypass s) := by
  refine .orphaned (by simp [enterBypass]) (by simp [enterBypass]) fun i => ?_
  have h := abandonHeld_follows
    (clearUses { s with ort := s.ort.map orphan, near := { s.near with head := orphanHead s.near.head } }) (orphanHead_follows hb).backed
  have hc := h.carries i
  rw [clearUses_near, headCarries_orphanHead] at hc
  exact Bool.eq_false_iff.mpr fun h => nomatch hc h

theorem hardReset_tracks (s : State) (pins : ResetInputs) (x : Option Snapshot) (k : ResetKind) (n : Byte) :
    Tracks s (hardReset pins x k n s) :=
  .cleared rfl (fun i hi => by rw [show ruleAt (hardReset pins x k n s) i = Rule.empty from Table.get_fill _ _ i hi]; rfl) rfl

theorem clearLink_tracks (s : State) (t : State) : Tracks s (clearLink t) :=
  .cleared rfl (fun i hi => by
    rw [show ruleAt (clearLink t) i = { ruleAt t i with useCount := 0 } from Table.get_mapIdx _ _ i _ hi]) rfl

/-- Every command moves the table and the Use Counts in one of these ways. -/
theorem Effect.tracks {s u : State} {c : Instr} (h : Effect s c u) (hb : headBacked s) (hu : (s.ort.map keyOf).Nodup) :
    Tracks s u := by
  cases h with
  | responded p => exact .changed _ (keepsEntry_answer p.source p.tag s.time) rfl rfl
  | entryCreated w b hhead hbuffer => exact .created w b hhead hbuffer rfl rfl fun _ h => nomatch h
  | @orphanRestored b e v _ hf hv =>
    have hf' : v.ort.find? (holdsKeyLive e.source e.tag) = some e := by rw [hv.ort]; exact findLive_self hf
    exact Tracks.congr (t := removeEntry (holdsKeyLive e.source e.tag) e v) rfl rfl rfl
      (Tracks.of_same hv.near hv.ort hv.rules (removeEntry_tracks hf'))
  | responseResolved b e m x refused out _ hf hv => exact (hv.tracks (findLive_self hf)).congr (by simp) (by simp) (by simp)
  | orphanExpired e src tag hf => exact removeEntry_tracks hf
  | readExpired e src tag hf =>
    obtain ⟨-, rfl, rfl, -⟩ := findLive_some hf
    exact expire_tracks hf hu
  | malformed b => exact .same (by simp [malformedAtHead_ort]) (by simp [malformedAtHead_rules])
  | stray b => exact .same (by simp [strayAtHead_ort]) (by simp [strayAtHead_rules])
  | guardDropped b _ hv => exact .same (by simp [hv.ort]) (by simp [hv.rules])
  | requestResolved b m x refused next _ hv => exact .same (by simp [hv.ort]) (by simp [hv.rules])
  | admitted w _ hw =>
    cases w with
    | request r next => exact .same (by simp [admitRecord]) (by simp [admitRecord])
    | response r p => exact .same rfl rfl
    | entry r e =>
      obtain ⟨he, hr⟩ := (entry_mem_waiters r e s).mp (mem_of_firstWaiter hw)
      have hf : (enqueue r s).ort.find? (holdsKeyExpired e.source e.tag) = some e := find_expired he hr hu
      exact Tracks.of_same (t := enqueue r s) rfl rfl rfl (removeEntry_tracks hf)
  | requestGranted f =>
    by_cases hf : f.tracked
    · exact .changed _ (keepsEntry_start f.packet.source f.packet.tag s.time s.timers.readTimeout) (by simp [hf]) (by simp)
    · exact .same (by simp [hf]) (by simp)
  | modeEntered m =>
    cases m with
    | active => exact .same rfl rfl
    | frozen => exact .same (by simp [enterMode]) (by simp [enterMode])
    | bypass => exact enterBypass_tracks hb
  | ruleDisabled index _ hindex => exact .disabled index.toNat (by omega) rfl rfl rfl
  | ruleLoaded p d _ _ hindex huse hstate => exact .ruleSet p.index.toNat ⟨.disabled, d, 0⟩ (by omega) (.inr rfl) hstate rfl rfl
  | ruleEnabled index _ hindex hstate => exact .ruleSet index.toNat { ruleAt s index.toNat with state := .enabled } (by omega) (.inl rfl) (by rw [hstate]; decide) rfl rfl
  | ruleCleared index _ hindex hstate => exact .ruleSet index.toNat Rule.empty (by omega) (.inr rfl) (by rw [hstate]; decide) rfl rfl
  | linkCleared => exact clearLink_tracks s _
  | boardCleared | powerCleared => exact hardReset_tracks s _ _ _ _
  | duplicate b => exact .same (by simp [duplicateAtHead]) (by simp [duplicateAtHead])
  | consumed | consumerRejected | readWaits | responseBypassed | writerGranted | heldRequestExpired | heldResponseExpired | freezeTaken =>
    exact .same (by simp) (by simp)
  | _ => exact .same rfl rfl


end Sys2Proof.Machine
end

section
/-! PROOFS. O56: the keys of the Outstanding Read Table stay distinct and every Use Count exact. -/

namespace Sys2Proof.Machine

set_option Elab.async false

/-! ## Keys -/

theorem waitingKeyFree_iff (s : State) : waitingKeyFree s ↔
    ∀ w b, s.near.head = .waitOrt w → s.near.buffer.head? = some b → (b.packet.source, b.packet.tag) ∉ s.ort.map keyOf := by
  unfold waitingKeyFree
  split
  next w b l hhead hbuffer => simp [keyInOrt_eq_false, hhead, hbuffer]
  next h =>
    refine ⟨fun _ w b hw hb => ?_, fun _ => trivial⟩
    cases hl : s.near.buffer with
    | nil => rw [hl] at hb; cases hb
    | cons x l => exact absurd hl (h w x l hw)

theorem keysUnique_iff (s : State) : KeysUnique s ↔ headBacked s ∧ (s.ort.map keyOf).Nodup ∧
    ∀ w b, s.near.head = .waitOrt w → s.near.buffer.head? = some b → (b.packet.source, b.packet.tag) ∉ s.ort.map keyOf := by
  rw [← waitingKeyFree_iff, ← unique_iff_nodup]
  exact ⟨fun ⟨hb, hu, hw⟩ => ⟨hb, hu, hw⟩, fun ⟨hb, hu, hw⟩ => ⟨hb, hu, hw⟩⟩

theorem KeysUnique.nodup {s : State} (h : KeysUnique s) : (s.ort.map keyOf).Nodup := ((keysUnique_iff s).mp h).2.1

theorem map_keyOf_map {f : OrtEntry → OrtEntry} {l : List OrtEntry} (hf : ∀ e, keyOf (f e) = keyOf e) :
    (l.map f).map keyOf = l.map keyOf := by
  rw [List.map_map]
  exact List.map_congr_left fun e _ => hf e

/-- Each key of the table was there before, unless the read that waited has its entry now. -/
theorem Tracks.keys {s u : State} (h : Tracks s u) : (u.ort.map keyOf).Sublist (s.ort.map keyOf) ∨
    ∃ w b, s.near.head = .waitOrt w ∧ s.near.buffer.head? = some b ∧ (∀ x, u.near.head ≠ .waitOrt x) ∧
      u.ort.map keyOf = s.ort.map keyOf ++ [(b.packet.source, b.packet.tag)] := by
  cases h with
  | changed f hf ho => exact .inl (by rw [ho, map_keyOf_map fun e => (hf e).1])
  | created w b hw hb ho _ hhead => exact .inr ⟨w, b, hw, hb, hhead, by rw [ho, List.map_append]; rfl⟩
  | removed l₁ l₂ e hs ho => exact .inl (by rw [hs, ho]; exact ((List.sublist_cons_self e l₂).append_left l₁).map keyOf)
  | expired l₁ l₂ e r hs ho => exact .inl (by rw [hs, ho, List.map_append, List.map_append]; exact .refl _)
  | orphaned ho =>
    have hkey : ∀ e, keyOf (orphan e) = keyOf e := fun e => by
      obtain ⟨h₁, h₂, -⟩ := orphan_keeps e
      exact Prod.ext h₁ h₂
    exact .inl (by rw [ho, map_keyOf_map hkey])
  | disabled i _ ho => exact .inl (by rw [ho, map_keyOf_map (f := entryWithout i) fun e => rfl])
  | ruleSet i r _ _ _ ho => exact .inl (by rw [ho])
  | cleared ho => exact .inl (by rw [ho]; exact List.nil_sublist _)

/-- Every command keeps the keys distinct. -/
theorem Effect.keeps_keysUnique {s u : State} {c : Instr} (h : Effect s c u) (hk : KeysUnique s) : KeysUnique u := by
  obtain ⟨hb, hu, hw⟩ := (keysUnique_iff s).mp hk
  refine (keysUnique_iff u).mpr ⟨h.keeps_headBacked hb, ?_, ?_⟩
  · obtain hkeys | ⟨w, b, hhead, hbuffer, -, hkeys⟩ := (h.tracks hb hu).keys
    · exact hkeys.nodup hu
    · rw [hkeys]
      exact List.nodup_append.mpr ⟨hu, List.nodup_singleton _, by
        rintro a ha k hk rfl
        rw [List.mem_singleton.mp hk] at ha
        exact hw w b hhead hbuffer ha⟩
  · intro w' b' hhead' hbuffer'
    obtain hnear | ⟨b, w, hatHead, hfree, -, rfl⟩ := h.near_follows hb
    · obtain ⟨w, hhead, hbuffer⟩ := hnear.waits w' b' hhead' hbuffer'
      obtain hkeys | ⟨-, -, -, -, hnot, -⟩ := (h.tracks hb hu).keys
      · exact fun hmem => hw w b' hhead hbuffer (hkeys.subset hmem)
      · exact absurd hhead' (hnot w')
    · rw [show (setHead (.waitOrt w) (sourceClash b.packet s)).near.buffer = s.near.buffer by simp, hatHead.2, Option.some.injEq] at hbuffer'
      rw [show (setHead (.waitOrt w) (sourceClash b.packet s)).ort = s.ort by simp, ← hbuffer']
      exact (keyInOrt_eq_false _ _ s).mp hfree

/-! ## Use Counts -/

/-- The number of entries whose pending set holds the rule. -/
def usesOf (i : Nat) (l : List OrtEntry) : Nat := l.countP fun e => hasRule e.pendingRules i

theorem usesOf_map {f : OrtEntry → OrtEntry} {l : List OrtEntry} {i : Nat} (hf : ∀ e, hasRule (f e).pendingRules i = hasRule e.pendingRules i) :
    usesOf i (l.map f) = usesOf i l := by
  rw [usesOf, List.countP_map]
  exact List.countP_congr fun e _ => by simp [hf e]

theorem usesOf_append (i : Nat) (l₁ l₂ : List OrtEntry) : usesOf i (l₁ ++ l₂) = usesOf i l₁ + usesOf i l₂ := List.countP_append

theorem usesOf_cons (i : Nat) (e : OrtEntry) (l : List OrtEntry) : usesOf i (e :: l) = usesOf i l + (hasRule e.pendingRules i).toNat := by
  rw [usesOf, List.countP_cons]
  cases hasRule e.pendingRules i <;> rfl

theorem usesOf_eq_zero {i : Nat} {l : List OrtEntry} (h : ∀ e ∈ l, hasRule e.pendingRules i = false) : usesOf i l = 0 :=
  List.countP_eq_zero.mpr fun e he => by simp [h e he]

/-- What the invariant says of the entries and the rules. -/
structure EntriesSound (s : State) : Prop where
  expired : ∀ e ∈ s.ort, isExpired e = true → e.pendingRules = 0
  enabled : ∀ i, i < 32 → (ruleAt s i).state ≠ .enabled → ∀ e ∈ s.ort, hasRule e.pendingRules i = false ∧ hasRule e.noData i = false
  exact   : ∀ i, i < 32 → (ruleAt s i).useCount = usesOf i s.ort

theorem useCountsExact_iff (s : State) : UseCountsExact s ↔ KeysUnique s ∧ EntriesSound s ∧
    ∀ i, i < 32 → (ruleAt s i).state ≠ .enabled → headCarries s.near.head i = false := by
  constructor
  · intro ⟨hk, he, hs, hx⟩
    exact ⟨hk, ⟨he, fun i hi hr => (hs i hi hr).2, hx⟩, fun i hi hr => (hs i hi hr).1⟩
  · intro ⟨hk, ⟨he, hs, hx⟩, hh⟩
    exact ⟨hk, he, fun i hi hr => ⟨hh i hi hr, hs i hi hr⟩, hx⟩

theorem ruleAt_rulesWithout {s u : State} {m : RuleSet} (h : u.rules = rulesWithout m s.rules) {i : Nat} (hi : i < 32) :
    (ruleAt u i).state = (ruleAt s i).state ∧ (ruleAt u i).useCount = (ruleAt s i).useCount - (hasRule m i).toNat := by
  rw [ruleAt, h, rulesWithout, Table.get_mapIdx _ _ _ _ hi]
  cases hm : hasRule m i
  · exact ⟨rfl, rfl⟩
  · exact ⟨rfl, rfl⟩

/-- An entry leaves the sets it was in: its pending rules leave the Use Counts. -/
theorem EntriesSound.without {s u : State} {l₁ l₂ l : List OrtEntry} {e : OrtEntry} (h : EntriesSound s)
    (hs : s.ort = l₁ ++ e :: l₂) (hr : u.rules = rulesWithout e.pendingRules s.rules) (ho : u.ort = l₁ ++ l ++ l₂)
    (hl : ∀ x ∈ l, x.pendingRules = 0 ∧ x.noData = e.noData) : EntriesSound u := by
  have hold : ∀ x ∈ u.ort, x ∈ s.ort ∨ x ∈ l := fun x hx => by
    rw [ho] at hx
    rw [hs]
    simp only [List.mem_append, List.mem_cons] at hx ⊢
    tauto
  have he : e ∈ s.ort := hs ▸ List.mem_append_right _ List.mem_cons_self
  refine ⟨fun x hx hexp => ?_, fun i hi hstate x hx => ?_, fun i hi => ?_⟩
  · exact (hold x hx).elim (fun hx => h.expired x hx hexp) fun hx => (hl x hx).1
  · rw [(ruleAt_rulesWithout hr hi).1] at hstate
    obtain hx | hx := hold x hx
    · exact h.enabled i hi hstate x hx
    · rw [(hl x hx).1, (hl x hx).2]
      exact ⟨hasRule_zero i, (h.enabled i hi hstate e he).2⟩
  · rw [(ruleAt_rulesWithout hr hi).2, h.exact i hi, ho, hs, usesOf_append, usesOf_append, usesOf_append, usesOf_cons,
      usesOf_eq_zero (l := l) fun x hx => by rw [(hl x hx).1]; exact hasRule_zero i]
    omega

/-- However the table and the rules move, the Use Counts stay exact. -/
theorem Tracks.keeps_entriesSound {s u : State} (h : Tracks s u) (hs : EntriesSound s)
    (hh : ∀ i, i < 32 → (ruleAt s i).state ≠ .enabled → headCarries s.near.head i = false) : EntriesSound u := by
  cases h with
  | changed f hf ho hr =>
    have hrule : ∀ i, ruleAt u i = ruleAt s i := fun i => by rw [ruleAt, hr, ruleAt]
    refine ⟨fun e he hexp => ?_, fun i hi hstate e he => ?_, fun i hi => ?_⟩
    · rw [ho] at he
      obtain ⟨x, hx, rfl⟩ := List.mem_map.mp he
      obtain ⟨-, hp, -, hexp'⟩ := hf x
      rw [hp]
      exact hs.expired x hx (hexp' ▸ hexp)
    · rw [ho] at he
      obtain ⟨x, hx, rfl⟩ := List.mem_map.mp he
      obtain ⟨-, hp, hn, -⟩ := hf x
      rw [hp, hn]
      exact hs.enabled i hi (hrule i ▸ hstate) x hx
    · rw [hrule, ho, usesOf_map fun e => by rw [(hf e).2.1]]
      exact hs.exact i hi
  | created w b hw hb ho hr =>
    have hrule : ∀ i, i < 32 → (ruleAt u i).state = (ruleAt s i).state ∧
        (ruleAt u i).useCount = (ruleAt s i).useCount + (hasRule w.pendingRules i).toNat := fun i hi => by
      rw [ruleAt, hr, Table.get_mapIdx _ _ _ _ hi]
      cases hasRule w.pendingRules i <;> exact ⟨rfl, rfl⟩
    have hmem : ∀ e ∈ u.ort, e ∈ s.ort ∨ e = newEntry b.packet w := fun e he => by
      rw [ho] at he
      simpa using he
    refine ⟨fun e he hexp => ?_, fun i hi hstate e he => ?_, fun i hi => ?_⟩
    · obtain he | rfl := hmem e he
      · exact hs.expired e he hexp
      · cases hexp
    · rw [(hrule i hi).1] at hstate
      obtain he | rfl := hmem e he
      · exact hs.enabled i hi hstate e he
      · have hc := hh i hi hstate
        rw [hw] at hc
        simpa [headCarries, newEntry] using hc
    · rw [(hrule i hi).2, hs.exact i hi, ho, usesOf_append, usesOf_cons]
      simp [usesOf, newEntry]
  | removed l₁ l₂ e hsplit ho hr => exact hs.without (l := []) hsplit hr (by rw [ho, List.append_nil]) fun _ h => nomatch h
  | expired l₁ l₂ e r hsplit ho hr =>
    refine hs.without (l := [{ e with phase := .expired r, pendingRules := 0 }]) hsplit hr (by rw [ho]; simp) fun x hx => ?_
    rw [List.mem_singleton.mp hx]
    exact ⟨rfl, rfl⟩
  | orphaned ho hr =>
    have hrule : ∀ i, i < 32 → (ruleAt u i).state = (ruleAt s i).state ∧ (ruleAt u i).useCount = 0 := fun i hi => by
      rw [ruleAt, hr, Table.get_mapIdx _ _ _ _ hi]
      exact ⟨rfl, rfl⟩
    have hpending : ∀ e ∈ s.ort, (orphan e).pendingRules = 0 := fun e he => by
      unfold orphan
      split
      next hexp => exact hs.expired e he hexp
      · rfl
    refine ⟨fun e he _ => ?_, fun i hi hstate e he => ?_, fun i hi => ?_⟩
    · rw [ho] at he
      obtain ⟨x, hx, rfl⟩ := List.mem_map.mp he
      exact hpending x hx
    · rw [ho] at he
      obtain ⟨x, hx, rfl⟩ := List.mem_map.mp he
      refine ⟨by rw [hpending x hx]; exact hasRule_zero i, ?_⟩
      unfold orphan
      split
      · exact (hs.enabled i hi ((hrule i hi).1 ▸ hstate) x hx).2
      · exact hasRule_zero i
    · rw [(hrule i hi).2, ho]
      refine (usesOf_eq_zero fun e he => ?_).symm
      obtain ⟨x, hx, rfl⟩ := List.mem_map.mp he
      rw [hpending x hx]
      exact hasRule_zero i
  | disabled j hj ho hr =>
    have hrule : ∀ i, ruleAt u i = if j = i then { ruleAt s j with state := .disabled, useCount := 0 } else ruleAt s i := fun i => by
      rw [ruleAt, hr, Table.get_set _ _ _ _ _ hj]
      rfl
    have hsets : ∀ e i, hasRule (entryWithout j e).pendingRules i = (hasRule e.pendingRules i && i != j) ∧
        hasRule (entryWithout j e).noData i = (hasRule e.noData i && i != j) := fun e i =>
      ⟨hasRule_withoutRule _ _ _ hj, hasRule_withoutRule _ _ _ hj⟩
    refine ⟨fun e he hexp => ?_, fun i hi hstate e he => ?_, fun i hi => ?_⟩
    · rw [ho] at he
      obtain ⟨x, hx, rfl⟩ := List.mem_map.mp he
      rw [ruleSet_eq_zero]
      intro i hi
      rw [(hsets x i).1, hs.expired x hx hexp, show hasRule 0 i = false from hasRule_zero i, Bool.false_and]
    · rw [ho] at he
      obtain ⟨x, hx, rfl⟩ := List.mem_map.mp he
      rw [(hsets x i).1, (hsets x i).2]
      by_cases hij : j = i
      · simp [hij]
      · rw [hrule, if_neg hij] at hstate
        obtain ⟨hp, hn⟩ := hs.enabled i hi hstate x hx
        rw [hp, hn]
        exact ⟨rfl, rfl⟩
    · rw [hrule, ho]
      by_cases hij : j = i
      · rw [if_pos hij]
        refine (usesOf_eq_zero fun e he => ?_).symm
        obtain ⟨x, hx, rfl⟩ := List.mem_map.mp he
        rw [(hsets x i).1]
        simp [hij]
      · rw [if_neg hij, usesOf_map fun e => by rw [(hsets e i).1]; simp [Ne.symm hij]]
        exact hs.exact i hi
  | ruleSet j r hj huse hstate ho hr =>
    have hrule : ∀ i, ruleAt u i = if j = i then r else ruleAt s i := fun i => by
      rw [ruleAt, hr, Table.get_set _ _ _ _ _ hj, ruleAt]
    have hzero : (ruleAt s j).useCount = 0 := by
      rw [hs.exact j hj]
      exact usesOf_eq_zero fun e he => (hs.enabled j hj hstate e he).1
    refine ⟨ho ▸ hs.expired, fun i hi hstate' e he => ?_, fun i hi => ?_⟩
    · by_cases hij : j = i
      · exact hs.enabled i hi (hij ▸ hstate) e (ho ▸ he)
      · rw [hrule, if_neg hij] at hstate'
        exact hs.enabled i hi hstate' e (ho ▸ he)
    · rw [hrule, ho, ← hs.exact i hi]
      split
      next hij => rw [← hij, hzero]; exact huse.elim (fun h => h.trans hzero) id
      · rfl
  | cleared ho hr =>
    have hnone : ∀ e, e ∉ u.ort := fun e he => by rw [ho] at he; cases he
    exact ⟨fun e he => absurd he (hnone e), fun _ _ _ e he => absurd he (hnone e), fun i hi => by rw [hr i hi, ho]; rfl⟩

/-- A rule that is not ENABLED after a command was not before, unless the command disabled it. -/
theorem Tracks.head_enabled {s u : State} (h : Tracks s u) (hnear : NearFollows s.near u.near)
    (hh : ∀ i, i < 32 → (ruleAt s i).state ≠ .enabled → headCarries s.near.head i = false) {i : Nat} (hi : i < 32)
    (hstate : (ruleAt u i).state ≠ .enabled) : headCarries u.near.head i = false := by
  have before : (ruleAt s i).state ≠ .enabled → headCarries u.near.head i = false := fun h =>
    Bool.eq_false_iff.mpr fun hc => Bool.eq_false_iff.mp (hh i hi h) (hnear.carries i hc)
  have kept : (ruleAt u i).state = (ruleAt s i).state → headCarries u.near.head i = false := fun h => before (h ▸ hstate)
  cases h with
  | changed f hf ho hr => exact kept (by rw [ruleAt, hr, ruleAt])
  | created w b hw hb ho hr hhead => exact headCarries_of_not_waiting hhead i
  | removed l₁ l₂ e hs ho hr => exact kept (ruleAt_rulesWithout hr hi).1
  | expired l₁ l₂ e r hs ho hr => exact kept (ruleAt_rulesWithout hr hi).1
  | orphaned ho hr hhead => exact hhead i
  | disabled j hj ho hr hhead =>
    by_cases hij : j = i
    · rw [hhead, ← hij]
      cases s.near.head <;> simp [headWithout, headCarries, hasRule_withoutRule _ _ _ hj]
    · exact kept (by rw [ruleAt, hr, Table.get_set_other _ _ _ _ _ hij, ruleAt])
  | ruleSet j r hj huse hstate' ho hr =>
    by_cases hij : j = i
    · exact before (hij ▸ hstate')
    · exact kept (by rw [ruleAt, hr, Table.get_set_other _ _ _ _ _ hij, ruleAt])
  | cleared ho hr hhead => rw [hhead]; rfl

theorem Effect.keeps_useCountsExact {s u : State} {c : Instr} (h : Effect s c u) (hs : UseCountsExact s) : UseCountsExact u := by
  obtain ⟨hk, he, hh⟩ := (useCountsExact_iff s).mp hs
  have htracks := h.tracks hk.backed hk.nodup
  refine (useCountsExact_iff u).mpr ⟨h.keeps_keysUnique hk, htracks.keeps_entriesSound he hh, fun i hi hstate => ?_⟩
  obtain hnear | ⟨b, w, -, -, hw, rfl⟩ := h.near_follows hk.backed
  · exact htracks.head_enabled hnear hh hi hstate
  · refine Bool.eq_false_iff.mpr fun hc => hstate ?_
    rw [ruleAt, setHead_rules, sourceClash_rules]
    exact hw i hi hc

end Sys2Proof.Machine

open Sys2Proof.Machine in
/-- Settles O56: the table and the rules move together at every command, in one of the ways of `Tracks`, and each keeps the Use Counts. -/
theorem useCountsKept : Obligations.UseCountsKept :=
  OutsidePort.stepKeeps ⟨fun _ _ h => ⟨⟨h.keys.backed, h.keys.unique, h.keys.waiting⟩, h.expired, h.enabled, h.exact⟩,
    fun _ _ h => ⟨⟨h.keys.backed, h.keys.unique, h.keys.waiting⟩, h.expired, h.enabled, h.exact⟩⟩
    fun _ _ _ hs h => h.keeps_useCountsExact hs

end

section
/-! PROOFS. The books of the ring: the records of the queue, those that wait for room and those of the held items, and the moves by which
every command changes them (R103, R127, R128, R134, R136, R139). -/

namespace Sys2Proof.Machine

set_option Elab.async false

/-! ## The books -/

/-- What the claims about the ring speak of. The records that wait and the held ones are given by their Seqs. -/
structure Books where
  queue : List QueuedRecord
  waits : List (BitVec 32)
  helds : List (BitVec 32)
  p     : BitVec 16
  c     : BitVec 16
  seq   : BitVec 32
  slots : Nat

def booksOf (s : State) : Books :=
  { queue := s.ring.queue, waits := waitingSeqs s, helds := heldSeqs s, p := s.ring.p, c := s.ring.c, seq := s.ring.seq,
    slots := s.ring.config.slots }

namespace Books

/-- R127. -/
def reserved (b : Books) : Nat := (b.p - b.c).toNat + b.queue.length + b.waits.length

def seqs (b : Books) : List (BitVec 32) := b.queue.map fun q => q.record.seq

/-- A record at the tail of the queue, in its slot (R128). -/
def enqueue (r : Record) (b : Books) : Books :=
  { b with queue := b.queue ++ [⟨r, (b.p.toNat + b.queue.length) % b.slots⟩] }

/-- The moves. What they say of the order of creation is said under a hypothesis `o`: the counts of the slots do not need it. A record
that is created is booked as a held one first. -/
inductive Move (o : Prop) (b : Books) : Books → Prop
  | kept (ws hs : List (BitVec 32)) : ws.Perm b.waits → hs.Subperm b.helds → Move o b { b with waits := ws, helds := hs }
  | created : (o → b.seq + 1 ∉ b.seqs ++ b.waits ++ b.helds) → Move o b { b with helds := b.seq :: b.helds, seq := b.seq + 1 }
  | admitted (r : Record) (ws : List (BitVec 32)) : b.waits.Perm (r.seq :: ws) →
      (o → ∀ x ∈ ws, createdBefore b.seq r.seq x = true) → Move o b { b.enqueue r with waits := ws }
  | queued (r : Record) (hs : List (BitVec 32)) : b.helds.Perm (r.seq :: hs) →
      (o → ∀ x ∈ hs, createdBefore b.seq r.seq x = true) → b.waits = [] → b.reserved < b.slots →
      Move o b { b.enqueue r with helds := hs }
  | waited (r : BitVec 32) (ws hs : List (BitVec 32)) : b.helds.Perm (r :: hs) →
      (o → ∀ x ∈ hs, createdBefore b.seq r x = true) → ws.Perm (r :: b.waits) → b.reserved < b.slots →
      Move o b { b with waits := ws, helds := hs }
  | published (q : QueuedRecord) (rest : List QueuedRecord) : b.queue = q :: rest → Move o b { b with queue := rest, p := b.p + 1 }
  | consumed (c' : BitVec 16) : (c' - b.c).toNat ≤ (b.p - b.c).toNat → Move o b { b with c := c' }
  | discarded : Move o b { b with queue := [], waits := [], helds := [] }
  | loaded (slots : Nat) : slots ≤ 4096 → (slots = 0 ∨ 65536 % slots = 0) →
      Move o b { b with queue := [], waits := [], p := 0, c := 0, slots := slots }
  | reset : Move o b { queue := [], waits := [], helds := [], p := 0, c := 0, seq := 0, slots := 0 }

/-- Any number of moves. -/
abbrev Path (o : Prop) : Books → Books → Prop := Relation.ReflTransGen (Move o)

/-! ## The slots -/

/-- R127: the slots in use are of the ring's. -/
def Within (b : Books) : Prop := b.slots ≤ 4096 ∧ b.reserved ≤ b.slots

theorem Move.keeps_within {o : Prop} {b b' : Books} (h : Move o b b') (hb : b.Within) : b'.Within := by
  obtain ⟨hslots, hres⟩ := hb
  cases h with
  | kept ws hs hw => exact ⟨hslots, by simpa [reserved, hw.length_eq] using hres⟩
  | created => exact ⟨hslots, hres⟩
  | admitted r ws hw =>
    have hlen := hw.length_eq
    simp only [reserved, List.length_cons] at hres hlen
    exact ⟨hslots, by simp only [reserved, enqueue, List.length_append, List.length_singleton]; omega⟩
  | queued r hs _ _ _ hfree =>
    simp only [reserved] at hfree
    exact ⟨hslots, by simp only [reserved, enqueue, List.length_append, List.length_singleton]; omega⟩
  | waited r ws hs _ _ hw hfree =>
    have hlen := hw.length_eq
    simp only [reserved, List.length_cons] at hfree hlen
    exact ⟨hslots, by simp only [reserved]; omega⟩
  | published q rest hq =>
    simp only [reserved, hq, List.length_cons] at hres
    have hp : (b.p + 1 - b.c).toNat ≤ (b.p - b.c).toNat + 1 := by bv_omega
    exact ⟨hslots, by simp only [reserved]; omega⟩
  | consumed c' hc =>
    have hp : (b.p - c').toNat ≤ (b.p - b.c).toNat := by bv_omega
    simp only [reserved] at hres
    exact ⟨hslots, by simp only [reserved]; omega⟩
  | discarded =>
    simp only [reserved] at hres
    exact ⟨hslots, by simp only [reserved, List.length_nil]; omega⟩
  | loaded slots h => exact ⟨h, by simp [reserved]⟩
  | reset => exact ⟨Nat.zero_le _, by simp [reserved]⟩

theorem Path.keeps_within {o : Prop} {b b' : Books} (h : Path o b b') (hb : b.Within) : b'.Within := by
  induction h with
  | refl => exact hb
  | tail _ hmove ih => exact hmove.keeps_within ih

/-! ## The order of creation -/

theorem createdBefore_iff (next a b : BitVec 32) : createdBefore next a b = true ↔ (next - b).toNat < (next - a).toNat := by
  simp [createdBefore]

theorem not_createdBefore_self (next a : BitVec 32) : createdBefore next a a = false := by simp [createdBefore]

/-- The order of two records stays while a further one is created, as long as neither is 2^32 - 1 creations old. -/
theorem createdBefore_succ {next a b : BitVec 32} (h : createdBefore next a b = true) (ha : a ≠ next + 1) :
    createdBefore (next + 1) a b = true := by
  rw [createdBefore_iff] at h ⊢
  bv_omega

/-- A record is created before the next one. -/
theorem createdBefore_next {next a : BitVec 32} (hne : a ≠ next) (ha : a ≠ next + 1) : createdBefore (next + 1) a next = true := by
  rw [createdBefore_iff]
  bv_omega

theorem nodup_of_subperm {l l' : List (BitVec 32)} (h : l.Subperm l') (hl : l'.Nodup) : l.Nodup := by
  obtain ⟨m, hperm, hsub⟩ := h
  exact hperm.nodup_iff.mp (hsub.nodup hl)

/-- R128, R134: the records stand in the order of their creation, the queue's first, then those that wait, then the held ones; and each
record of the queue is in its slot. -/
structure Ordered (b : Books) : Prop where
  slots    : b.slots = 0 ∨ 65536 % b.slots = 0
  placed   : ∀ i q, b.queue[i]? = some q → q.slot = (b.p.toNat + i) % b.slots
  queue    : b.seqs.Pairwise fun x y => createdBefore b.seq x y = true
  waiting  : ∀ x ∈ b.seqs, ∀ y ∈ b.waits, createdBefore b.seq x y = true
  held     : ∀ x ∈ b.seqs ++ b.waits, ∀ y ∈ b.helds, createdBefore b.seq x y = true
  distinct : b.waits.Nodup ∧ b.helds.Nodup
  fresh    : b.seq ∉ b.seqs ++ b.waits ++ b.helds

theorem seqs_enqueue (r : Record) (b : Books) : (b.enqueue r).seqs = b.seqs ++ [r.seq] := by simp [seqs, enqueue]

theorem placed_enqueue (r : Record) {b : Books} (h : ∀ i q, b.queue[i]? = some q → q.slot = (b.p.toNat + i) % b.slots) :
    ∀ i q, (b.enqueue r).queue[i]? = some q → q.slot = (b.p.toNat + i) % b.slots := by
  intro i q hq
  rw [enqueue, List.getElem?_append] at hq
  split at hq
  · exact h i q hq
  next hi =>
    obtain ⟨hi', hq'⟩ := List.getElem?_eq_some_iff.mp hq
    simp only [List.length_singleton] at hi'
    rw [show i = b.queue.length by omega]
    simp only [show i - b.queue.length = 0 by omega, List.getElem_cons_zero] at hq'
    rw [← hq']

/-- The slot of a record does not change when P steps on: Slots divides 65536. -/
theorem slot_succ {p : BitVec 16} {slots i : Nat} (h : slots = 0 ∨ 65536 % slots = 0) (hs : slots ≠ 0) :
    ((p + 1).toNat + i) % slots = (p.toNat + (i + 1)) % slots := by
  obtain ⟨k, hk⟩ := Nat.dvd_of_mod_eq_zero (h.resolve_left hs)
  by_cases hp : p.toNat + 1 = 65536
  · have : (p + 1).toNat = 0 := by bv_omega
    rw [this, show p.toNat + (i + 1) = i + slots * k by omega, Nat.add_mul_mod_self_left, Nat.zero_add]
  · have : (p + 1).toNat = p.toNat + 1 := by bv_omega
    rw [this]
    congr 1
    omega

theorem Ordered.created {b : Books} (h : Ordered b) (hnext : b.seq + 1 ∉ b.seqs ++ b.waits ++ b.helds) :
    Ordered { b with helds := b.seq :: b.helds, seq := b.seq + 1 } := by
  have later : ∀ {x y}, x ∈ b.seqs ++ b.waits ++ b.helds → createdBefore b.seq x y = true → createdBefore (b.seq + 1) x y = true :=
    fun hx hxy => createdBefore_succ hxy fun he => hnext (he ▸ hx)
  refine ⟨h.slots, h.placed, ?_, fun x hx y hy => ?_, fun x hx y hy => ?_, ⟨h.distinct.1, List.nodup_cons.mpr ⟨fun hmem => ?_, h.distinct.2⟩⟩, ?_⟩
  · exact h.queue.imp_of_mem fun {x _} hx _ hxy => later (List.mem_append_left _ (List.mem_append_left _ hx)) hxy
  · exact later (List.mem_append_left _ (List.mem_append_left _ hx)) (h.waiting x hx y hy)
  · have hx' : x ∈ b.seqs ++ b.waits ++ b.helds := List.mem_append_left _ hx
    obtain rfl | hy := List.mem_cons.mp hy
    · exact createdBefore_next (fun he => h.fresh (he ▸ hx')) fun he => hnext (he ▸ hx')
    · exact later hx' (h.held x hx y hy)
  · exact h.fresh (List.mem_append_right _ hmem)
  · intro hmem
    simp only [List.mem_append, List.mem_cons] at hmem hnext
    have hne : b.seq + 1 ≠ b.seq := by bv_omega
    exact hnext (by simpa [hne, seqs] using hmem)

theorem Ordered.enqueue {b : Books} {r : Record} {ws hs : List (BitVec 32)} (h : Ordered b) (hbefore : ∀ x ∈ b.seqs, createdBefore b.seq x r.seq = true)
    (hws : ws.Subperm b.waits) (hhs : hs.Subperm b.helds) (hwaits : ∀ x ∈ ws, createdBefore b.seq r.seq x = true)
    (hhelds : ∀ x ∈ hs, createdBefore b.seq r.seq x = true) (hfresh : b.seq ≠ r.seq) :
    Ordered { b.enqueue r with waits := ws, helds := hs } := by
  have hseqs : ({ b.enqueue r with waits := ws, helds := hs } : Books).seqs = b.seqs ++ [r.seq] := seqs_enqueue r b
  refine ⟨h.slots, placed_enqueue r h.placed, ?_, ?_, ?_, ⟨nodup_of_subperm hws h.distinct.1, nodup_of_subperm hhs h.distinct.2⟩, ?_⟩ <;> rw [hseqs]
  · exact List.pairwise_append.mpr ⟨h.queue, List.pairwise_singleton _ _, fun x hx y hy => by
      rw [List.mem_singleton.mp hy]
      exact hbefore x hx⟩
  · intro x hx y hy
    obtain hx | hx := List.mem_append.mp hx
    · exact h.waiting x hx y (hws.subset hy)
    · rw [List.mem_singleton.mp hx]
      exact hwaits y hy
  · intro x hx y hy
    simp only [List.mem_append, List.mem_singleton] at hx
    obtain (hx | rfl) | hx := hx
    · exact h.held x (List.mem_append_left _ hx) y (hhs.subset hy)
    · exact hhelds y hy
    · exact h.held x (List.mem_append_right _ (hws.subset hx)) y (hhs.subset hy)
  · intro hmem
    simp only [List.mem_append, List.mem_singleton] at hmem
    obtain ((hx | hx) | hx) | hx := hmem
    · exact h.fresh (by simp only [List.mem_append]; exact .inl (.inl hx))
    · exact hfresh hx
    · exact h.fresh (by simp only [List.mem_append]; exact .inl (.inr (hws.subset hx)))
    · exact h.fresh (by simp only [List.mem_append]; exact .inr (hhs.subset hx))

theorem Move.keeps_ordered {o : Prop} {b b' : Books} (h : Move o b b') (ho : o) (hin : b.Within) (hb : Ordered b) : Ordered b' := by
  have subperm : ∀ {x : BitVec 32} {l l' : List (BitVec 32)}, l.Perm (x :: l') → l'.Subperm l := fun {x _ l'} h =>
    ((List.sublist_cons_self x l').subperm).trans h.symm.subperm
  cases h with
  | kept ws hs hw hh =>
    refine ⟨hb.slots, hb.placed, hb.queue, fun x hx y hy => hb.waiting x hx y (hw.subset hy), fun x hx y hy => ?_,
      ⟨hw.nodup_iff.mpr hb.distinct.1, nodup_of_subperm hh hb.distinct.2⟩, fun hmem => hb.fresh ?_⟩
    · refine hb.held x ?_ y (hh.subset hy)
      exact (List.mem_append.mp hx).elim (List.mem_append_left _) fun hx => List.mem_append_right _ (hw.subset hx)
    · simp only [List.mem_append] at hmem ⊢
      exact hmem.imp (.imp id (hw.subset ·)) (hh.subset ·)
  | created hnext => exact hb.created (hnext ho)
  | admitted r ws hw hfirst =>
    have hr : r.seq ∈ b.waits := hw.symm.subset List.mem_cons_self
    exact hb.enqueue (fun x hx => hb.waiting x hx _ hr) (subperm hw) (.refl _) (hfirst ho)
      (fun y hy => hb.held _ (List.mem_append_right _ hr) y hy)
      fun he => hb.fresh (he ▸ List.mem_append_left _ (List.mem_append_right _ hr))
  | queued r hs hh hfirst hw =>
    have hr : r.seq ∈ b.helds := hh.symm.subset List.mem_cons_self
    have h := hb.enqueue (ws := b.waits) (fun x hx => hb.held x (List.mem_append_left _ hx) _ hr) (.refl _) (subperm hh)
      (fun x hx => by rw [hw] at hx; cases hx) (hfirst ho) fun he => hb.fresh (he ▸ List.mem_append_right _ hr)
    exact h
  | waited r ws hs hh hfirst hw =>
    have hr : r ∈ b.helds := hh.symm.subset List.mem_cons_self
    have hmem : ∀ {x}, x ∈ ws → x = r ∨ x ∈ b.waits := fun hx => List.mem_cons.mp (hw.subset hx)
    have hnot : r ∉ b.waits := fun hmem => by
      have := hb.held r (List.mem_append_right _ hmem) r hr
      rw [not_createdBefore_self] at this
      cases this
    refine ⟨hb.slots, hb.placed, hb.queue, fun x hx y hy => ?_, fun x hx y hy => ?_,
      ⟨hw.nodup_iff.mpr (List.nodup_cons.mpr ⟨hnot, hb.distinct.1⟩), nodup_of_subperm (subperm hh) hb.distinct.2⟩, fun hfresh => hb.fresh ?_⟩
    · obtain rfl | hy := hmem hy
      · exact hb.held x (List.mem_append_left _ hx) _ hr
      · exact hb.waiting x hx y hy
    · have hy' := (subperm hh).subset hy
      obtain hx | hx := List.mem_append.mp hx
      · exact hb.held x (List.mem_append_left _ hx) y hy'
      · obtain rfl | hx := hmem hx
        · exact hfirst ho y hy
        · exact hb.held x (List.mem_append_right _ hx) y hy'
    · simp only [List.mem_append] at hfresh ⊢
      obtain (hx | hx) | hx := hfresh
      · exact .inl (.inl hx)
      · exact (hmem hx).elim (fun he => .inr (he ▸ hr)) fun hx => .inl (.inr hx)
      · exact .inr ((subperm hh).subset hx)
  | published q rest hq =>
    have hseqs : b.seqs = q.record.seq :: rest.map fun q => q.record.seq := by rw [seqs, hq, List.map_cons]
    have hsub : ∀ {x : BitVec 32}, x ∈ rest.map (fun q => q.record.seq) → x ∈ b.seqs := fun hx => by
      rw [hseqs]
      exact List.mem_cons_of_mem _ hx
    refine ⟨hb.slots, fun i q' hq' => ?_, (List.pairwise_cons.mp (hseqs ▸ hb.queue)).2, fun x hx => hb.waiting x (hsub hx), fun x hx => ?_,
      hb.distinct, fun hmem => hb.fresh ?_⟩
    · have hold := hb.placed (i + 1) q' (by rw [hq]; exact hq')
      have hpos : b.slots ≠ 0 := fun h0 => by
        have := hin.2
        rw [reserved, hq, h0] at this
        simp at this
      rw [hold, ← slot_succ hb.slots hpos]
    · exact hb.held x ((List.mem_append.mp hx).elim (fun hx => List.mem_append_left _ (hsub hx)) (List.mem_append_right _))
    · simp only [List.mem_append] at hmem ⊢
      exact hmem.imp_left (.imp_left hsub)
  | consumed c' => exact ⟨hb.slots, hb.placed, hb.queue, hb.waiting, hb.held, hb.distinct, hb.fresh⟩
  | discarded => exact ⟨hb.slots, by simp, by simp [seqs], by simp, by simp, by simp, by simp [seqs]⟩
  | loaded slots _ h =>
    exact ⟨h, by simp, by simp [seqs], by simp, by simp [seqs], ⟨List.nodup_nil, hb.distinct.2⟩, fun hmem => hb.fresh (by simpa [seqs] using .inr (.inr hmem))⟩
  | reset => exact ⟨.inl rfl, by simp, by simp [seqs], by simp, by simp, by simp, by simp [seqs]⟩

theorem Path.keeps_ordered {o : Prop} {b b' : Books} (h : Path o b b') (ho : o) (hin : b.Within) (hb : Ordered b) : Ordered b' := by
  induction h with
  | refl => exact hb
  | tail hpath hmove ih => exact hmove.keeps_ordered ho (Path.keeps_within hpath hin) ih

end Books

end Sys2Proof.Machine
end

section
/-! PROOFS. How the books of the ring follow the shared operations: placing a record, offering one, and giving freed slots to the held items
(R103, R107, R131, R134, R140). -/

namespace Sys2Proof.Machine

set_option Elab.async false

/-! ## The books and the fields of the state -/

/-- The Seqs that the head request waits and is held with. -/
def requestBook : RequestHead → List (BitVec 32) × List (BitVec 32)
  | .waitRoom r _ => ([r.seq], [])
  | .held h _ => ([], [h.record.seq])
  | _ => ([], [])

/-- The Seqs that the head response waits and is held with. -/
def responseBook : ResponseHead → List (BitVec 32) × List (BitVec 32)
  | .waitRoom r _ => ([r.seq], [])
  | .held h _ => ([], [h.record.seq])
  | _ => ([], [])

/-- The Seq that an entry waits with. -/
def entrySeq (e : OrtEntry) : Option (BitVec 32) :=
  match e.phase with
  | .expired r => some r.seq
  | _ => none

/-- What the books take from the ring. -/
def ringBook (g : RingController) : List QueuedRecord × BitVec 16 × BitVec 16 × BitVec 32 × Nat :=
  (g.queue, g.p, g.c, g.seq, g.config.slots)

theorem waitingSeqs_eq (s : State) :
    waitingSeqs s = (requestBook s.near.head).1 ++ (responseBook s.far.head).1 ++ s.ort.filterMap entrySeq := by
  have hentries : (s.ort.filterMap entryWaiter).map waiterSeq = s.ort.filterMap entrySeq := by
    rw [List.map_filterMap]
    refine List.filterMap_congr fun e _ => ?_
    cases hp : e.phase <;> simp [entryWaiter, entrySeq, hp, waiterSeq]
  have hrequest : (requestWaiter s).map waiterSeq = (requestBook s.near.head).1 := by
    cases hh : s.near.head <;> simp [requestWaiter, requestBook, hh, waiterSeq]
  have hresponse : (responseWaiter s).map waiterSeq = (responseBook s.far.head).1 := by
    cases hh : s.far.head <;> simp [responseWaiter, responseBook, hh, waiterSeq]
  rw [waitingSeqs, waiters, List.map_append, List.map_append, hentries, hrequest, hresponse]

theorem heldSeqs_eq (s : State) : heldSeqs s = (requestBook s.near.head).2 ++ (responseBook s.far.head).2 := by
  have hrequest : (holdOf .request s).toList.map (fun h => h.record.seq) = (requestBook s.near.head).2 := by
    unfold holdOf requestBook
    cases s.near.head <;> rfl
  have hresponse : (holdOf .response s).toList.map (fun h => h.record.seq) = (responseBook s.far.head).2 := by
    unfold holdOf responseBook
    cases s.far.head <;> rfl
  rw [heldSeqs, List.map_append, hrequest, hresponse]

theorem waitingRecords_eq (s : State) : waitingRecords s = (waitingSeqs s).length := by
  have hentries : s.ort.countP isExpired = (s.ort.filterMap entrySeq).length := by
    induction s.ort with
    | nil => rfl
    | cons e l ih =>
      cases hp : e.phase <;> simp [isExpired, entrySeq, hp, ih]
  have hrequest : (headWaitsForRoom s.near.head).toNat = (requestBook s.near.head).1.length := by
    cases s.near.head <;> rfl
  have hresponse : (responseWaitsForRoom s.far.head).toNat = (responseBook s.far.head).1.length := by
    cases s.far.head <;> rfl
  rw [waitingRecords, waitingSeqs_eq, List.length_append, List.length_append, hentries, hrequest, hresponse]

theorem booksOf_reserved (s : State) : (booksOf s).reserved = reserved s := by
  rw [reserved, waitingRecords_eq]
  rfl

theorem slotFree_iff (s : State) : slotFree s = true ↔ (booksOf s).reserved < (booksOf s).slots := by
  rw [booksOf_reserved]
  simp [slotFree, booksOf]

theorem booksOf_eq (s : State) : booksOf s =
    { queue := s.ring.queue, waits := (requestBook s.near.head).1 ++ (responseBook s.far.head).1 ++ s.ort.filterMap entrySeq,
      helds := (requestBook s.near.head).2 ++ (responseBook s.far.head).2,
      p := s.ring.p, c := s.ring.c, seq := s.ring.seq, slots := s.ring.config.slots } := by
  rw [booksOf, waitingSeqs_eq, heldSeqs_eq]

/-- What the books depend on. -/
theorem booksOf_congr {s u : State} (hn : requestBook u.near.head = requestBook s.near.head)
    (hf : responseBook u.far.head = responseBook s.far.head) (ho : u.ort.filterMap entrySeq = s.ort.filterMap entrySeq)
    (hr : ringBook u.ring = ringBook s.ring) : booksOf u = booksOf s := by
  simp only [ringBook, Prod.mk.injEq] at hr
  obtain ⟨hq, hp, hc, hs, hslots⟩ := hr
  rw [booksOf_eq, booksOf_eq, hn, hf, ho, hq, hp, hc, hs, hslots]

theorem queueOpen_waits {s : State} (h : queueOpen s = true) : (booksOf s).waits = [] := by
  have := ((queueOpen_iff s).mp h).2
  rw [waitingRecords_eq] at this
  exact List.length_eq_zero_iff.mp this

theorem booksOf_enqueue (r : Record) (s : State) : booksOf (enqueue r s) = (booksOf s).enqueue r := by
  rw [booksOf_eq, booksOf_eq]
  rfl

/-! ## A record that has its slot -/

open Books

/-- A record that has its slot enters the queue, or waits for room; either way it is a held item's no longer. -/
structure Places (r : Record) (hs : List (BitVec 32)) (t u : State) : Prop where
  enters : queueOpen t = true → booksOf u = { (booksOf t).enqueue r with helds := hs }
  waits  : queueOpen t = false → ∃ ws, ws.Perm (r.seq :: (booksOf t).waits) ∧ booksOf u = { booksOf t with waits := ws, helds := hs }

theorem Places.path {o : Prop} {r : Record} {hs l : List (BitVec 32)} {t u : State} (h : Places r hs t u) (hl : l.Perm (r.seq :: hs))
    (hfree : slotFree t = true) (hfirst : o → ∀ x ∈ hs, createdBefore t.ring.seq r.seq x = true) :
    Path o { booksOf t with helds := l } (booksOf u) := by
  rw [slotFree_iff] at hfree
  cases hopen : queueOpen t with
  | true =>
    rw [h.enters hopen]
    exact .single (Move.queued (b := { booksOf t with helds := l }) r hs hl hfirst (queueOpen_waits hopen) hfree)
  | false =>
    obtain ⟨ws, hws, hu⟩ := h.waits hopen
    rw [hu]
    exact .single (Move.waited (b := { booksOf t with helds := l }) r.seq ws hs hl hfirst hws hfree)

theorem continueRequest_book (next : AfterCapture) (s : State) : requestBook (continueRequest next s).near.head = ([], []) := by
  cases next <;> rfl

theorem booksOf_continueRequest (next : AfterCapture) (s : State) : booksOf (continueRequest next s) =
    { booksOf s with waits := (responseBook s.far.head).1 ++ s.ort.filterMap entrySeq, helds := (responseBook s.far.head).2 } := by
  rw [booksOf_eq, booksOf_eq, continueRequest_book]
  simp

theorem placeRequest_places {r : Record} (next : AfterCapture) {t : State} (hn : (requestBook t.near.head).1 = []) :
    Places r (responseBook t.far.head).2 t (placeRequest r next t) where
  enters hopen := by
    rw [placeRequest, if_pos hopen, booksOf_continueRequest, booksOf_enqueue, booksOf_eq t, hn]
    rfl
  waits hopen := by
    refine ⟨r.seq :: (booksOf t).waits, .refl _, ?_⟩
    rw [placeRequest, if_neg (by simp [hopen]), booksOf_eq, booksOf_eq t, hn]
    rfl

theorem placeResponse_places {r : Record} (p : ResponsePacket) {t : State} (hf : (responseBook t.far.head).1 = []) :
    Places r (requestBook t.near.head).2 t (placeResponse r p t) where
  enters hopen := by
    rw [placeResponse, if_pos hopen, booksOf_eq, booksOf_eq t, hf]
    simp [responseBook, Books.enqueue]
  waits hopen := by
    refine ⟨(requestBook t.near.head).1 ++ [r.seq] ++ t.ort.filterMap entrySeq, ?_, ?_⟩
    · rw [booksOf_eq t, hf]
      simp
    · rw [placeResponse, if_neg (by simp [hopen]), booksOf_eq, booksOf_eq t]
      simp [responseBook]

/-! ## Freed slots -/

theorem requestBook_of_held {s : State} {h : Hold} {next : AfterCapture} (hhead : s.near.head = .held h next) :
    requestBook s.near.head = ([], [h.record.seq]) := by rw [hhead]; rfl

theorem responseBook_of_held {s : State} {h : Hold} {p : ResponsePacket} (hhead : s.far.head = .held h p) :
    responseBook s.far.head = ([], [h.record.seq]) := by rw [hhead]; rfl

theorem releaseRequest_of_noSlot {s : State} (h : slotFree s = false) : releaseRequest s = s := by
  unfold releaseRequest
  split
  · rw [if_neg (by simp [h])]
  · rfl

theorem releaseResponse_of_noSlot {s : State} (h : slotFree s = false) : releaseResponse s = s := by
  unfold releaseResponse
  split
  · rw [if_neg (by simp [h])]
  · rfl

theorem releaseRequest_path {o : Prop} {s : State} (hfirst : o → ∀ h next, s.near.head = .held h next →
    ∀ x ∈ (responseBook s.far.head).2, createdBefore s.ring.seq h.record.seq x = true) :
    Path o (booksOf s) (booksOf (releaseRequest s)) := by
  unfold releaseRequest
  split
  next h next hhead =>
    split
    next hfree =>
      have hbook := requestBook_of_held hhead
      have hplaces := placeRequest_places (r := heldRecord h s.time) next (t := s) (by rw [hbook])
      have hheld : (booksOf s).helds = (heldRecord h s.time).seq :: (responseBook s.far.head).2 := by rw [booksOf_eq, hbook]; rfl
      exact hplaces.path (l := (booksOf s).helds) (.of_eq hheld) hfree fun ho => hfirst ho h next hhead
    · exact .refl
  · exact .refl

theorem releaseResponse_path {o : Prop} {s : State} (hfirst : o → ∀ h p, s.far.head = .held h p →
    ∀ x ∈ (requestBook s.near.head).2, createdBefore s.ring.seq h.record.seq x = true) :
    Path o (booksOf s) (booksOf (releaseResponse s)) := by
  unfold releaseResponse
  split
  next h p hhead =>
    split
    next hfree =>
      have hbook := responseBook_of_held hhead
      have hplaces := placeResponse_places (r := heldRecord h s.time) p (t := s) (by rw [hbook])
      have hheld : (booksOf s).helds = (requestBook s.near.head).2 ++ [(heldRecord h s.time).seq] := by rw [booksOf_eq, hbook]; rfl
      refine hplaces.path (l := (booksOf s).helds) ?_ hfree fun ho => hfirst ho h p hhead
      rw [hheld]
      exact List.perm_append_singleton _ _
    · exact .refl
  · exact .refl

theorem requestBook_notHeld {s : State} : (requestBook s.near.head).2 = [] ↔ holdOf .request s = none := by
  cases h : s.near.head <;> simp [requestBook, holdOf, h]

theorem responseBook_notHeld {s : State} : (responseBook s.far.head).2 = [] ↔ holdOf .response s = none := by
  cases h : s.far.head <;> simp [responseBook, holdOf, h]

theorem releaseRequest_notHeld {s : State} (hfree : slotFree s = true) : (requestBook (releaseRequest s).near.head).2 = [] := by
  unfold releaseRequest
  split
  · rw [if_pos hfree]
    exact requestBook_notHeld.mpr (placeRequest_notHeld _ _ s)
  next hhead =>
    refine requestBook_notHeld.mpr ?_
    unfold holdOf
    dsimp only
    split
    next k nx hk => exact absurd hk (hhead k nx)
    · rfl

theorem releaseResponse_notHeld {s : State} (hfree : slotFree s = true) : (responseBook (releaseResponse s).far.head).2 = [] := by
  unfold releaseResponse
  split
  · rw [if_pos hfree]
    exact responseBook_notHeld.mpr (placeResponse_notHeld _ _ s).2
  next hhead =>
    refine responseBook_notHeld.mpr ?_
    unfold holdOf
    dsimp only
    split
    next k nx hk => exact absurd hk (hhead k nx)
    · rfl

/-- With no slot free nothing is offered. -/
theorem offerFreedSlots_of_noSlot {s : State} (h : slotFree s = false) : offerFreedSlots s = s := by
  unfold offerFreedSlots
  rw [releaseRequest_of_noSlot h, releaseResponse_of_noSlot h, releaseRequest_of_noSlot h]
  split <;> rfl

theorem createdBefore_total {next a b : BitVec 32} (hne : a ≠ b) (h : createdBefore next b a = false) : createdBefore next a b = true := by
  simp only [createdBefore, decide_eq_false_iff_not, decide_eq_true_eq] at h ⊢
  bv_omega

/-- Freed slots go to the held items in the order in which their records were created. -/
theorem offerFreedSlots_path {o : Prop} {s : State} (hdistinct : o → (heldSeqs s).Nodup) : Path o (booksOf s) (booksOf (offerFreedSlots s)) := by
  cases hfree : slotFree s with
  | false => rw [offerFreedSlots_of_noSlot hfree]
  | true =>
    unfold offerFreedSlots
    split
    next hfirst =>
      have hdone := releaseResponse_notHeld hfree
      refine (releaseResponse_path fun _ k p hk x hx => ?_).trans (releaseRequest_path fun _ h next _ x hx => ?_)
      · unfold responseHeldFirst at hfirst
        rw [hk] at hfirst
        cases hh : s.near.head <;> rw [hh] at hx hfirst <;> simp [requestBook] at hx hfirst
        rw [hx]
        exact hfirst
      · rw [hdone] at hx
        cases hx
    next hfirst =>
      have hdone := releaseRequest_notHeld hfree
      refine (releaseRequest_path fun ho h next hh x hx => ?_).trans (releaseResponse_path fun _ h p _ x hx => ?_)
      · unfold responseHeldFirst at hfirst
        rw [hh] at hfirst
        have hnodup := hdistinct ho
        rw [heldSeqs_eq, requestBook_of_held hh] at hnodup
        cases hk : s.far.head <;> rw [hk] at hx hfirst hnodup <;> simp [responseBook] at hx hfirst hnodup
        rw [hx]
        exact createdBefore_total hnodup hfirst
      · rw [hdone] at hx
        cases hx

/-- After the offer no slot is free while an item is held (R103). -/
theorem offerFreedSlots_full {s : State} (h : heldSeqs (offerFreedSlots s) ≠ []) : slotFree (offerFreedSlots s) = false := by
  cases hfree : slotFree s with
  | false => rwa [offerFreedSlots_of_noSlot hfree]
  | true =>
    rw [heldSeqs_eq] at h
    unfold offerFreedSlots at h ⊢
    split at h
    next hfirst =>
      rw [if_pos hfirst]
      rw [releaseRequest_far, releaseResponse_notHeld hfree, List.append_nil] at h
      cases hfree' : slotFree (releaseResponse s) with
      | false => rwa [releaseRequest_of_noSlot hfree']
      | true => exact absurd (releaseRequest_notHeld hfree') h
    next hfirst =>
      rw [if_neg hfirst]
      rw [releaseResponse_near, releaseRequest_notHeld hfree, List.nil_append] at h
      cases hfree' : slotFree (releaseRequest s) with
      | false => rwa [releaseResponse_of_noSlot hfree']
      | true => exact absurd (releaseResponse_notHeld hfree') h

end Sys2Proof.Machine
end

section
/-! PROOFS. How the books of the ring follow every command: one record at most is created, and it is offered as R131 says. -/

namespace Sys2Proof.Machine

set_option Elab.async false

open Books

/-! ## No slot free while an item is held -/

/-- R103, R131: while an item is held no slot is free. -/
def Books.Full (b : Books) : Prop := b.helds ≠ [] → b.slots ≤ b.reserved

theorem full_booksOf (s : State) : (booksOf s).Full ↔ (heldSeqs s ≠ [] → slotFree s = false) := by
  rw [Books.Full, ← Bool.not_eq_true, slotFree_iff, not_lt]
  rfl

/-- What the claim about the order assumes of the state before a command. -/
structure InOrder (s : State) : Prop where
  ordered : (booksOf s).Ordered
  full    : (booksOf s).Full
  next    : s.ring.seq + 1 ∉ queuedSeqs s ++ waitingSeqs s ++ heldSeqs s
  overrun : OverrunSound s

/-- The books move, and no slot is free after while an item is held. -/
structure Advances (o : Prop) (s u : State) : Prop where
  path : Path o (booksOf s) (booksOf u)
  full : o → (booksOf u).Full

variable {o : Prop} {s u : State}

theorem Advances.same (ho : o → InOrder s) (h : booksOf u = booksOf s) : Advances o s u where
  path := by rw [h]
  full hh := by rw [h]; exact (ho hh).full

theorem Advances.kept (ho : o → InOrder s) (hs : List (BitVec 32)) (hsub : hs.Subperm (booksOf s).helds)
    (h : booksOf u = { booksOf s with helds := hs }) : Advances o s u where
  path := by rw [h]; exact .single (Move.kept (b := booksOf s) _ hs (.refl _) hsub)
  full hh := by
    rw [h]
    intro hne
    refine (ho hh).full fun hnil => hne ?_
    exact List.subperm_nil.mp (hnil ▸ hsub)

theorem Advances.cleared (hp : Path o (booksOf s) (booksOf u)) (h : (booksOf u).helds = []) : Advances o s u where
  path := hp
  full _ hne := absurd h hne

/-! ## A record offered for a slot -/

/-- What a resolution leaves: the books as they were, but for the Seq of the record it creates. -/
inductive Resolved (s v : State) : Option Record → Prop
  | none : booksOf v = booksOf s → Resolved s v none
  | some (r : Record) : r.seq = s.ring.seq → s.ctrl.mode = .active → v.ring.config = s.ring.config → v.ring.overrun = s.ring.overrun →
      booksOf v = { booksOf s with seq := s.ring.seq + 1 } → Resolved s v (some r)

theorem recordFate_reserve (h : recordFate s = .reserve) : slotFree s = true := by
  unfold recordFate at h
  split at h
  next hcond => exact ((Bool.and_eq_true _ _).mp hcond).2
  · split at h <;> cases h

theorem recordFate_hold (h : recordFate s = .hold) : s.ring.config.mode = .lossless ∧ (s.ring.overrun = false → slotFree s = false) := by
  unfold recordFate at h
  split at h
  · cases h
  next hcond =>
    split at h
    next hmode => exact ⟨hmode, fun hov => by simpa [hov] using hcond⟩
    · cases h

theorem recordFate_drop (h : recordFate s = .drop) : s.ring.config.mode = .lossy := by
  unfold recordFate at h
  split at h
  · cases h
  · split at h
    · cases h
    next hmode => exact hmode

/-- A new record takes a slot if one is free and OVERRUN is clear; otherwise it is held, lost or dropped. -/
theorem offered_advances (ho : o → InOrder s) {v : State} {r : Record} (hv : Resolved s v (some r))
    (hreserve : recordFate v = .reserve → Places r (booksOf v).helds v u)
    (hhold : recordFate v = .hold → ∃ hs, hs.Subperm (r.seq :: (booksOf v).helds) ∧ booksOf u = { booksOf v with helds := hs })
    (hdrop : recordFate v = .drop → booksOf u = booksOf v) : Advances o s u := by
  cases hv with
  | some _ hseq _ hconfig hoverrun hbooks =>
    have hcreated : Path o (booksOf s) { booksOf v with helds := r.seq :: (booksOf v).helds } := by
      rw [hbooks, hseq]
      exact .single (Move.created (b := booksOf s) fun hh => (ho hh).next)
    have hfull : o → (booksOf v).Full := fun hh => by
      rw [hbooks]
      exact (ho hh).full
    cases hfate : recordFate v with
    | reserve =>
      have hplaces := hreserve hfate
      have hfree := recordFate_reserve hfate
      have hnone : o → (booksOf v).helds = [] := fun hh => by
        by_contra hne
        have := hfull hh hne
        rw [slotFree_iff] at hfree
        omega
      refine ⟨hcreated.trans (hplaces.path (.refl _) hfree fun hh x hx => ?_), fun hh hne => absurd ?_ hne⟩
      · rw [hnone hh] at hx
        cases hx
      · cases hopen : queueOpen v with
        | true => rw [hplaces.enters hopen]; exact hnone hh
        | false =>
          obtain ⟨ws, -, hu⟩ := hplaces.waits hopen
          rw [hu]
          exact hnone hh
    | hold =>
      obtain ⟨hs, hsub, hu⟩ := hhold hfate
      refine ⟨hcreated.trans ?_, fun hh hne => ?_⟩
      · rw [hu]
        exact .single (Move.kept (b := { booksOf v with helds := r.seq :: (booksOf v).helds }) _ hs (.refl _) hsub)
      · obtain ⟨hmode, hnoslot⟩ := recordFate_hold hfate
        have hclear : v.ring.overrun = false := Bool.eq_false_iff.mpr fun hov => by
          have := (ho hh).overrun (hoverrun ▸ hov)
          rw [← hconfig, hmode] at this
          cases this
        have := hnoslot hclear
        rw [← Bool.not_eq_true, slotFree_iff, not_lt] at this
        rw [hu]
        exact this
    | drop =>
      have hu := hdrop hfate
      refine ⟨hcreated.trans ?_, fun hh => by rw [hu]; exact hfull hh⟩
      rw [hu]
      exact .single (Move.kept (b := { booksOf v with helds := r.seq :: (booksOf v).helds }) _ _ (.refl _)
        ((List.sublist_cons_self _ _).subperm))

theorem booksOf_dropRecord (s : State) : booksOf (dropRecord s) = booksOf s :=
  booksOf_congr (by simp) (by simp) (by simp) (by simp [ringBook])

theorem captureRequest_advances (ho : o → InOrder s) {v : State} {r : Option Record} (next : AfterCapture) (hv : Resolved s v r)
    (hn : requestBook v.near.head = ([], [])) : Advances o s (captureRequest r next v) := by
  have hcontinue : ∀ t : State, requestBook t.near.head = ([], []) → booksOf (continueRequest next t) = booksOf t := fun t ht =>
    booksOf_congr (by rw [continueRequest_book, ht]) (by simp) (by simp) (by simp)
  cases hv with
  | none hbooks => exact .same ho ((hcontinue v hn).trans hbooks)
  | some r hseq hmode hconfig hoverrun hbooks =>
    have hhelds : (booksOf v).helds = (responseBook v.far.head).2 := by rw [booksOf_eq, hn]; rfl
    refine offered_advances ho (.some r hseq hmode hconfig hoverrun hbooks) (fun hf => ?_) (fun hf => ?_) fun hf => ?_ <;>
      rw [captureRequest] <;> simp only [hf]
    · rw [hhelds]
      exact placeRequest_places next (by rw [hn])
    · refine ⟨r.seq :: (booksOf v).helds, .refl _, ?_⟩
      rw [booksOf_eq, booksOf_eq v, hn]
      rfl
    · rw [hcontinue _ (by rw [dropRecord_near, hn]), booksOf_dropRecord]

theorem captureResponse_advances (ho : o → InOrder s) {v : State} {r : Option Record} (p : ResponsePacket) (hv : Resolved s v r)
    (hf : responseBook v.far.head = ([], [])) : Advances o s (captureResponse r p v) := by
  have hcontinue : ∀ t : State, responseBook t.far.head = ([], []) → booksOf (setResponseHead (.ready p) t) = booksOf t := fun t ht =>
    booksOf_congr rfl (by rw [ht]; rfl) rfl rfl
  cases hv with
  | none hbooks => exact .same ho ((hcontinue v hf).trans hbooks)
  | some r hseq hmode hconfig hoverrun hbooks =>
    have hhelds : (booksOf v).helds = (requestBook v.near.head).2 := by rw [booksOf_eq, hf]; exact List.append_nil _
    refine offered_advances ho (.some r hseq hmode hconfig hoverrun hbooks) (fun hfate => ?_) (fun hfate => ?_) fun hfate => ?_ <;>
      rw [captureResponse] <;> simp only [hfate]
    · rw [hhelds]
      exact placeResponse_places p (by rw [hf])
    · refine ⟨(requestBook v.near.head).2 ++ [r.seq], ?_, ?_⟩
      · rw [hhelds]
        exact (List.perm_append_singleton _ _).subperm
      · rw [booksOf_eq, booksOf_eq v, hf]
        rfl
    · rw [hcontinue _ (by rw [dropRecord_far, hf]), booksOf_dropRecord]

/-! ## Entries -/

theorem entrySeq_of_live {e : OrtEntry} (h : isExpired e = false) : entrySeq e = none := by
  unfold isExpired at h
  unfold entrySeq
  split <;> simp_all

theorem entrySeqs_map {f : OrtEntry → OrtEntry} {l : List OrtEntry} (hf : ∀ e, entrySeq (f e) = entrySeq e) :
    (l.map f).filterMap entrySeq = l.filterMap entrySeq := by
  rw [List.filterMap_map]
  exact List.filterMap_congr fun e _ => hf e

/-- A live entry leaves: the records that wait are the same. -/
theorem entrySeqs_eraseP {src : SourceId} {tag : Tag} {e : OrtEntry} (h : findLive src tag s = some e) :
    (s.ort.eraseP (holdsKeyLive src tag)).filterMap entrySeq = s.ort.filterMap entrySeq := by
  obtain ⟨l₁, l₂, hs, he⟩ := split_of_find h
  rw [he, hs]
  simp [entrySeq_of_live (findLive_some h).2.2.2]

theorem booksOf_removeEntry {src : SourceId} {tag : Tag} {e e' : OrtEntry} (h : findLive src tag s = some e) :
    booksOf (removeEntry (holdsKeyLive src tag) e' s) = booksOf s :=
  booksOf_congr (by simp) (by simp) (by rw [removeEntry_ort, entrySeqs_eraseP h]) (by simp)

theorem entrySeq_answerEntry (now : Ticks) (e : OrtEntry) : entrySeq (answerEntry now e) = entrySeq e := by
  unfold answerEntry
  split <;> simp_all [entrySeq]

theorem entrySeq_startTimer (now : Ticks) (limit : BitVec 16) (e : OrtEntry) : entrySeq (startTimer now limit e) = entrySeq e := by
  unfold startTimer
  split <;> (try split) <;> simp_all [entrySeq]

theorem entrySeq_orphan (e : OrtEntry) : entrySeq (orphan e) = entrySeq e := by
  unfold orphan
  split <;> rfl

theorem placeExpiry_advances (ho : o → InOrder s) {v : State} {r : Option Record} {e : OrtEntry} (hv : Resolved s v r)
    (hf : findLive e.source e.tag v = some e) (hu : (v.ort.map keyOf).Nodup) : Advances o s (placeExpiry e r v) := by
  cases hv with
  | none hbooks => exact .same ho ((booksOf_removeEntry hf).trans hbooks)
  | some r hseq hmode hconfig hoverrun hbooks =>
    have hlost : ∀ t : State, t.near = v.near → t.far = v.far → t.ort = v.ort → ringBook t.ring = ringBook v.ring →
        booksOf (removeEntry (holdsKeyLive e.source e.tag) e t) = booksOf v := fun t hn hf' ho' hr => by
      rw [booksOf_removeEntry (by rw [findLive, ho']; exact hf)]
      exact booksOf_congr (by rw [hn]) (by rw [hf']) (by rw [ho']) hr
    refine offered_advances ho (.some r hseq hmode hconfig hoverrun hbooks) (fun hfate => ?_) (fun hfate => ?_) fun hfate => ?_ <;>
      rw [placeExpiry] <;> simp only [hfate]
    · refine ⟨fun hopen => ?_, fun hopen => ?_⟩
      · rw [if_pos hopen, booksOf_removeEntry (s := enqueue r v) hf, booksOf_enqueue]
        rfl
      · rw [if_neg (by simp [hopen])]
        obtain ⟨l₁, l₂, hs⟩ := List.append_of_mem (findLive_some hf).1
        have hort : (keepExpired e r v).ort = l₁ ++ { e with phase := .expired r, pendingRules := 0 } :: l₂ :=
          changeEntry_split _ hs hu
        refine ⟨(booksOf (keepExpired e r v)).waits, ?_, ?_⟩
        · rw [booksOf_eq, booksOf_eq v, keepExpired_near, keepExpired_far, hort, hs]
          simp only [List.filterMap_append, List.filterMap_cons, entrySeq_of_live (findLive_some hf).2.2.2]
          rw [← List.append_assoc, ← List.append_assoc]
          exact List.perm_middle
        · rw [booksOf_eq, booksOf_eq v, keepExpired_near, keepExpired_far, keepExpired_ring]
    · exact ⟨(booksOf v).helds, (List.sublist_cons_self _ _).subperm, hlost _ rfl rfl rfl rfl⟩
    · exact hlost _ (by simp) (by simp) (by simp) (by simp [ringBook])

/-! ## The waiting record that enters the queue -/

theorem firstWaiter_first {next : BitVec 32} {ws : List Waiter} {w : Waiter} (h : firstWaiter next ws = some w) :
    ∀ v ∈ ws, createdBefore next (waiterSeq v) (waiterSeq w) = false := by
  induction ws generalizing w with
  | nil => cases h
  | cons x xs ih =>
    unfold firstWaiter at h
    split at h
    next hnone =>
      obtain rfl := Option.some.inj h
      have hnil : xs = [] := by
        cases xs with
        | nil => rfl
        | cons y ys =>
          unfold firstWaiter at hnone
          split at hnone
          · cases hnone
          · split at hnone <;> cases hnone
      intro v hv
      rw [hnil, List.mem_singleton] at hv
      rw [hv, not_createdBefore_self]
    next y hy =>
      have hfirst := ih hy
      intro v hv
      split at h
      next hyx =>
        obtain rfl := Option.some.inj h
        obtain rfl | hv := List.mem_cons.mp hv
        · rw [createdBefore_iff] at hyx
          simp only [createdBefore, decide_eq_false_iff_not]
          omega
        · exact hfirst v hv
      next hyx =>
        obtain rfl := Option.some.inj h
        obtain rfl | hv := List.mem_cons.mp hv
        · exact not_createdBefore_self _ _
        · have hvy := hfirst v hv
          simp only [createdBefore, decide_eq_false_iff_not, not_lt, Bool.not_eq_true] at hvy hyx ⊢
          omega

theorem Advances.admitted (ho : o → InOrder s) {w : Waiter} (r : Record) (hr : r.seq = waiterSeq w)
    (hw : firstWaiter s.ring.seq (waiters s) = some w) {ws : List (BitVec 32)} (hperm : (booksOf s).waits.Perm (r.seq :: ws))
    (h : booksOf u = { (booksOf s).enqueue r with waits := ws }) : Advances o s u where
  path := by
    rw [h]
    refine .single (Move.admitted (b := booksOf s) r ws hperm fun hh x hx => ?_)
    have hnodup := hperm.nodup_iff.mp (ho hh).ordered.distinct.1
    refine createdBefore_total (fun he => (List.nodup_cons.mp hnodup).1 (he ▸ hx)) ?_
    obtain ⟨v, hv, rfl⟩ := List.mem_map.mp (hperm.symm.subset (List.mem_cons_of_mem _ hx))
    rw [hr]
    exact firstWaiter_first hw v hv
  full hh := by
    have hlen := hperm.length_eq
    have hfull := (ho hh).full
    rw [h]
    intro hne
    have := hfull hne
    simp only [Books.reserved, Books.enqueue, List.length_append, List.length_cons, List.length_nil] at hlen this ⊢
    omega

theorem admitRecord_advances (ho : o → InOrder s) {w : Waiter} (hw : firstWaiter s.ring.seq (waiters s) = some w)
    (hu : (s.ort.map keyOf).Nodup) : Advances o s (admitRecord w s) := by
  cases w with
  | request r next =>
    have hhead := waitRoom_of_firstWaiter hw
    refine .admitted ho r rfl hw (ws := (responseBook s.far.head).1 ++ s.ort.filterMap entrySeq) ?_ ?_
    · rw [booksOf_eq, hhead]
      exact .refl _
    · rw [admitRecord, booksOf_continueRequest, booksOf_enqueue, booksOf_eq s, hhead]
      rfl
  | response r p =>
    have hhead := (response_mem_waiters r p s).mp (mem_of_firstWaiter hw)
    refine .admitted ho r rfl hw (ws := (requestBook s.near.head).1 ++ s.ort.filterMap entrySeq) ?_ ?_
    · rw [booksOf_eq, hhead]
      simp [responseBook]
    · rw [admitRecord, booksOf_eq, booksOf_eq s, hhead]
      simp [responseBook, Books.enqueue]
  | entry r e =>
    obtain ⟨he, hr⟩ := (entry_mem_waiters r e s).mp (mem_of_firstWaiter hw)
    obtain ⟨l₁, l₂, hs, herase⟩ := split_of_find (find_expired he hr hu)
    have hseq : entrySeq e = some r.seq := by rw [entrySeq, hr]
    refine .admitted ho r rfl hw
      (ws := (requestBook s.near.head).1 ++ (responseBook s.far.head).1 ++ (l₁ ++ l₂).filterMap entrySeq) ?_ ?_
    · rw [booksOf_eq, hs, List.filterMap_append, List.filterMap_append, List.filterMap_cons_some hseq, ← List.append_assoc,
        ← List.append_assoc]
      exact List.perm_middle
    · rw [admitRecord, booksOf_eq, booksOf_eq s]
      simp only [removeEntry_near, removeEntry_far, removeEntry_ring, removeEntry_ort, enqueue_near, enqueue_far, enqueue_ort, herase]
      rfl

/-! ## The writer -/

theorem advanceWriter_advances (ho : o → InOrder s) (hs : RingSound s) (hu : booksOf u = booksOf s) (hw : u.ring.writer = s.ring.writer) :
    Advances o s (advanceWriter u) := by
  have same : ∀ t : State, t.near = u.near → t.far = u.far → t.ort = u.ort → ringBook t.ring = ringBook u.ring → Advances o s t :=
    fun t hn hf hort hr => .same ho ((booksOf_congr (by rw [hn]) (by rw [hf]) (by rw [hort]) hr).trans hu)
  unfold advanceWriter
  split
  · exact .same ho hu
  · split
    · exact same _ rfl rfl rfl rfl
    · split
      · exact same _ rfl rfl rfl rfl
      · exact same _ rfl rfl rfl rfl
  · exact same _ rfl rfl rfl rfl
  next p hwriter =>
    have hne := hs.writing (by rw [← hw, hwriter]; rfl)
    obtain ⟨q, rest, hq⟩ := List.exists_cons_of_ne_nil hne
    have hbooks : booksOf (publish u) = { booksOf s with queue := rest, p := s.ring.p + 1 } := by
      have hpub : booksOf (publish u) = { booksOf u with queue := (booksOf u).queue.tail, p := (booksOf u).p + 1 } := rfl
      rw [hpub, hu, show (booksOf s).queue = q :: rest from hq]
      rfl
    refine ⟨?_, fun hh => ?_⟩ <;> rw [hbooks]
    · exact .single (Move.published (b := booksOf s) q rest hq)
    · intro hheld
      have hfull := (ho hh).full hheld
      have hres := hs.reserved
      have hslots := hs.slots
      rw [← booksOf_reserved] at hres
      simp only [Books.reserved, booksOf, hq, List.length_cons] at hfull hres ⊢
      have : (s.ring.p + 1 - s.ring.c).toNat = (s.ring.p - s.ring.c).toNat + 1 := by bv_omega
      omega
  · exact same _ rfl rfl rfl rfl

end Sys2Proof.Machine
end

section
/-! PROOFS. O57: how the books of the ring follow every command, and that the slots in use are the ring's. -/

namespace Sys2Proof.Machine

set_option Elab.async false

open Books

variable {o : Prop} {s u : State}

/-- What a resolution leaves of a state with the same books. -/
theorem resolve_resolved (m : RuleSet) (x : Transaction) (refused : Bool) {v : State} (hn : v.near.head = s.near.head)
    (hf : v.far.head = s.far.head) (hort : v.ort.filterMap entrySeq = s.ort.filterMap entrySeq) (hr : v.ring = s.ring)
    (hmode : v.ctrl.mode = s.ctrl.mode) : Resolved s (resolve m x refused v).1 (resolve m x refused v).2 := by
  have hbooks : ∀ seq, (resolve m x refused v).1.ring.seq = seq →
      booksOf (resolve m x refused v).1 = { booksOf s with seq := seq } := fun seq hseq => by
    rw [booksOf_eq, booksOf_eq s, hseq]
    simp [hn, hf, hort, hr]
  obtain ⟨hnone, hseq⟩ | ⟨r, hsome, hrseq, hactive, hseq⟩ := resolve_record m x refused v
  · rw [hnone]
    exact .none (hbooks _ (hseq.trans (by rw [hr])))
  · rw [hsome]
    exact .some r (hrseq.trans (by rw [hr])) (hmode ▸ hactive) (by simp [hr]) (by simp [hr]) (hbooks _ (hseq.trans (by rw [hr])))

theorem expire_advances (ho : o → InOrder s) {e : OrtEntry} (hf : findLive e.source e.tag s = some e)
    (hu : (s.ort.map keyOf).Nodup) : Advances o s (expire e s) := by
  unfold expire
  dsimp only
  split <;> refine placeExpiry_advances ho (resolve_resolved _ _ _ (by simp) (by simp) (by simp) (by simp) (by simp)) ?_ (by simpa using hu) <;>
    simpa [findLive] using hf

/-! ## Held items that go on without their records -/

theorem booksOf_loseRecord (s : State) : booksOf (loseRecord s) = booksOf s := rfl

theorem abandonHeldRequest_books (s : State) : booksOf (abandonHeldRequest s) = { booksOf s with helds := (responseBook s.far.head).2 } := by
  unfold abandonHeldRequest
  split
  next h next hhead =>
    rw [booksOf_continueRequest, booksOf_loseRecord, booksOf_eq s, hhead]
    rfl
  next hno =>
    have hnone : (requestBook s.near.head).2 = [] := by
      unfold requestBook
      split
      · rfl
      next h next hhead => exact absurd hhead (hno h next)
      · rfl
    rw [booksOf_eq, hnone]
    rfl

theorem abandonHeldResponse_books (s : State) : booksOf (abandonHeldResponse s) = { booksOf s with helds := (requestBook s.near.head).2 } := by
  unfold abandonHeldResponse
  split
  next h p hhead =>
    rw [booksOf_eq, booksOf_eq s, hhead]
    simp [responseBook]
  next hno =>
    have hnone : (responseBook s.far.head).2 = [] := by
      unfold responseBook
      split
      · rfl
      next h p hhead => exact absurd hhead (hno h p)
      · rfl
    rw [booksOf_eq, hnone, List.append_nil]

theorem abandonHeld_books (s : State) : booksOf (abandonHeld s) = { booksOf s with helds := [] } := by
  have hnone : (requestBook (abandonHeldRequest s).near.head).2 = [] := requestBook_notHeld.mpr (abandonHeldRequest_notHeld s)
  rw [abandonHeld, abandonHeldResponse_books, abandonHeldRequest_books, hnone]

theorem enterBypass_books (s : State) : booksOf (enterBypass s) = { booksOf s with helds := [] } := by
  have horphan : requestBook (orphanHead s.near.head) = requestBook s.near.head := by cases s.near.head <;> rfl
  have hbooks : booksOf (clearUses { s with ort := s.ort.map orphan, near := { s.near with head := orphanHead s.near.head } }) = booksOf s :=
    booksOf_congr horphan rfl (entrySeqs_map entrySeq_orphan) rfl
  rw [← hbooks]
  exact abandonHeld_books (clearUses { s with ort := s.ort.map orphan, near := { s.near with head := orphanHead s.near.head } })

theorem enterMode_advances (ho : o → InOrder s) (m : Mode) : Advances o s (enterMode m s) := by
  cases m with
  | active => exact .same ho rfl
  | frozen => exact .kept ho [] (List.nil_subperm) (abandonHeld_books s)
  | bypass => exact .kept ho [] (List.nil_subperm) (enterBypass_books s)

/-! ## Resets and SET_RING -/

theorem discarded_advances (h : booksOf u = { booksOf s with queue := [], waits := [], helds := [] }) : Advances o s u := by
  refine .cleared ?_ (by rw [h])
  rw [h]
  exact .single (Move.discarded (b := booksOf s))

theorem clearLink_books (s : State) : booksOf (clearLink s) = { booksOf s with queue := [], waits := [], helds := [] } := by
  have hslots : (abortConfig s.ring.config).slots = s.ring.config.slots := by
    unfold abortConfig
    split <;> rfl
  rw [booksOf_eq, booksOf_eq s, ← hslots]
  rfl

theorem hardReset_advances (pins : ResetInputs) (x : Option Snapshot) (k : ResetKind) (n : Byte) :
    Advances o s (hardReset pins x k n s) :=
  .cleared (.single Move.reset) rfl

theorem slots_of_ringConfigOf {p : RingParams} {cfg : RingConfig} (h : ringConfigOf p = some cfg) : cfg.slots ∈ slotCounts := by
  unfold ringConfigOf at h
  split at h
  · split at h
    next hc => rw [← Option.some.inj h]; exact hc.2.1
    · cases h
  · cases h

theorem slots_sound {n : Nat} (h : n ∈ slotCounts) : n ≤ 4096 ∧ (n = 0 ∨ 65536 % n = 0) := by
  have hall : ∀ n ∈ slotCounts, n ≤ 4096 ∧ (n = 0 ∨ 65536 % n = 0) := by decide
  exact hall n h

theorem ringBusy_eq_false (h : ringBusy s = false) : s.ring.queue = [] ∧ (booksOf s).waits = [] ∧ s.ring.writer = .idle := by
  simp only [ringBusy, Bool.or_eq_false_iff, Bool.not_eq_false', List.isEmpty_iff, decide_eq_false_iff_not, bne_eq_false_iff_eq] at h
  obtain ⟨⟨⟨-, hq⟩, hw⟩, hidle⟩ := h
  refine ⟨hq, ?_, hidle⟩
  rw [waitingRecords_eq] at hw
  exact List.length_eq_zero_iff.mp (Nat.eq_zero_of_not_pos hw)

/-- SET_RING: no record is in the part but those of held items, and in BYPASS there is none (R106). -/
theorem loadRing_advances (ho : o → HoldSound s) {cfg : RingConfig} (hslots : cfg.slots ∈ slotCounts) (hmode : s.ctrl.mode = .bypass)
    (hbusy : ringBusy s = false) : Advances o s (loadRing cfg s) := by
  obtain ⟨hq, hw, -⟩ := ringBusy_eq_false hbusy
  have hbooks : booksOf (loadRing cfg s) = { booksOf s with queue := [], waits := [], p := 0, c := 0, slots := cfg.slots } := by
    rw [← hw, show ([] : List QueuedRecord) = s.ring.queue from hq.symm]
    rfl
  obtain ⟨hle, hdvd⟩ := slots_sound hslots
  refine ⟨?_, fun hh => ?_⟩ <;> rw [hbooks]
  · exact .single (Move.loaded (b := booksOf s) cfg.slots hle hdvd)
  · have hnone : ∀ side, holdOf side s = none := fun side => by
      by_contra hne
      have := ho hh side hne
      rw [hmode] at this
      cases this
    refine fun hne => absurd ?_ hne
    change heldSeqs s = []
    rw [heldSeqs_eq, requestBook_notHeld.mpr (hnone .request), responseBook_notHeld.mpr (hnone .response)]
    rfl

theorem acceptUpdate_advances (ho : o → InOrder s) {c' : BitVec 16} (hc : (c' - s.ring.c).toNat ≤ unconsumed s.ring)
    (hn : requestBook u.near.head = requestBook s.near.head) (hf : u.far = s.far) (hort : u.ort = s.ort) (hr : u.ring = s.ring) :
    Advances o s (acceptUpdate c' u) := by
  obtain ⟨t, ht⟩ : ∃ t, t = { u with ring := { u.ring with
    c := c', overrun := u.ring.overrun && !u.ring.overrunSeen, overrunSeen := false } } := ⟨_, rfl⟩
  have hbooks : booksOf t = { booksOf s with c := c' } := by
    rw [ht, booksOf_eq, booksOf_eq s, hn, hf, hort, hr]
  have haccept : acceptUpdate c' u = offerFreedSlots t := by rw [ht]; rfl
  rw [haccept]
  refine ⟨.head (Move.consumed (b := booksOf s) c' hc) ?_, fun _ => (full_booksOf _).mpr offerFreedSlots_full⟩
  rw [← hbooks]
  refine offerFreedSlots_path fun hh => ?_
  change (booksOf t).helds.Nodup
  rw [hbooks]
  exact (ho hh).ordered.distinct.2

/-! ## Every command -/

theorem responseBook_of_fresh (h : s.far.head = .fresh) : responseBook s.far.head = ([], []) := by rw [h]; rfl

theorem requestBook_of_fresh (h : s.near.head = .fresh) : requestBook s.near.head = ([], []) := by rw [h]; rfl

/-- A change of the near side between positions without a record. -/
theorem Advances.ofNear (ho : o → InOrder s) (h : requestBook s.near.head = ([], [])) (hn : requestBook u.near.head = ([], []))
    (hf : u.far = s.far) (hort : u.ort = s.ort) (hr : ringBook u.ring = ringBook s.ring) : Advances o s u :=
  .same ho (booksOf_congr (hn.trans h.symm) (by rw [hf]) (by rw [hort]) hr)

/-- Every command moves the books. -/
theorem Effect.advances {c : Instr} (h : Effect s c u) (hs : RingSound s) (ho : o → InOrder s) (hhold : o → HoldSound s) :
    Advances o s u := by
  have hu := hs.keys.nodup
  cases h with
  | consumed p c' _ _ hc => exact acceptUpdate_advances ho hc rfl rfl rfl rfl
  | consumerRejected p => exact .same ho (booksOf_congr (by simp) (by simp) (by simp) (by simp))
  | responded p => exact .same ho (booksOf_congr rfl rfl (entrySeqs_map fun e => by split <;> simp [entrySeq_answerEntry]) rfl)
  | bypassed b hb => exact .ofNear ho (requestBook_of_fresh hb.1) rfl rfl rfl rfl
  | damaged b hb => exact .ofNear ho (requestBook_of_fresh hb.1) rfl rfl rfl rfl
  | malformed b hb =>
    refine .ofNear ho (requestBook_of_fresh hb.1) ?_ ?_ (by rw [malformedAtHead_ort, sourceClash_ort]) ?_
    · rcases malformedAtHead_near b.packet (sourceClash b.packet s) with h | h <;> rw [h] <;> rfl
    · rw [malformedAtHead_far, sourceClash_far]
    · rw [malformedAtHead_ring, sourceClash_ring]
  | duplicate b hb => exact .ofNear ho (requestBook_of_fresh hb.1) rfl (by simp [duplicateAtHead]) (by simp [duplicateAtHead]) (by simp [duplicateAtHead])
  | guardDropped b hb hv => exact .ofNear ho (requestBook_of_fresh hb.1) rfl (by simp [hv.far]) (by simp [hv.ort]) (by simp [hv.ring])
  | requestResolved b m x refused next hb hv =>
    refine captureRequest_advances ho next (resolve_resolved m x refused (by rw [hv.near]) (by rw [hv.far]) (by rw [hv.ort]) hv.ring (by rw [hv.ctrl])) ?_
    rw [resolve_near, hv.near]
    exact requestBook_of_fresh hb.1
  | readWaits b w hb => exact .ofNear ho (requestBook_of_fresh hb.1) rfl (by simp) (by simp) (by simp)
  | entryCreated w b hhead =>
    refine .same ho (booksOf_congr (by rw [hhead]; rfl) rfl ?_ rfl)
    change (s.ort ++ [newEntry b.packet w]).filterMap entrySeq = _
    rw [List.filterMap_append]
    exact List.append_nil _
  | refusalAdmitted r hhead => exact .ofNear ho (by rw [hhead]; rfl) rfl rfl rfl rfl
  | countedRefusalAdmitted r hhead => exact .ofNear ho (by rw [hhead]; rfl) rfl rfl rfl rfl
  | responseBypassed b hb => exact .same ho (booksOf_congr rfl (responseBook_of_fresh hb.1).symm rfl rfl)
  | stray b hb =>
    refine .same ho (booksOf_congr (by rw [strayAtHead_near]) ?_ (by rw [strayAtHead_ort]) (by rw [strayAtHead_ring]))
    rw [responseBook_of_fresh hb.1]
    rfl
  | @orphanRestored b e v hb hf hv =>
    refine .same ho (booksOf_congr (by rw [orphanAtHead_near, hv.near]) (responseBook_of_fresh hb.1).symm ?_ ?_)
    · change (v.ort.eraseP (holdsKeyLive e.source e.tag)).filterMap entrySeq = _
      rw [hv.ort, entrySeqs_eraseP (findLive_self hf)]
    · change ringBook v.ring = _
      rw [hv.ring]
  | responseResolved b e m x refused out hb hf hv =>
    have hort := entrySeqs_eraseP (findLive_self hf)
    refine captureResponse_advances ho out (resolve_resolved m x refused (by rw [hv.eq_with]; rfl) (by rw [hv.eq_with]; rfl)
      (by rw [hv.eq_with]; exact hort) (by rw [hv.eq_with]; rfl) (by rw [hv.eq_with]; rfl)) ?_
    rw [resolve_far, hv.eq_with]
    exact responseBook_of_fresh hb.1
  | orphanExpired e src tag hf => exact .same ho (booksOf_removeEntry hf)
  | readExpired e src tag hf => exact expire_advances ho (findLive_self hf) hu
  | admitted w _ hw => exact admitRecord_advances ho hw hu
  | requestGranted f _ _ hhead =>
    refine .same ho (booksOf_congr (by rw [grantRequest_near, hhead]; rfl) (by rw [grantRequest_far]) ?_ (by rw [grantRequest_ring]))
    rw [grantRequest_ort]
    split
    · exact entrySeqs_map fun e => by split <;> simp [entrySeq_startTimer]
    · rfl
  | writerGranted p => exact advanceWriter_advances ho hs rfl rfl
  | responseGranted p _ _ hhead => exact .same ho (booksOf_congr rfl (by rw [hhead]; rfl) rfl rfl)
  | heldRequestExpired =>
    refine .kept ho (responseBook s.far.head).2 ?_ (abandonHeldRequest_books (holdRanOut s))
    rw [booksOf_eq]
    exact (List.sublist_append_right _ _).subperm
  | heldResponseExpired =>
    refine .kept ho (requestBook s.near.head).2 ?_ (abandonHeldResponse_books (holdRanOut s))
    rw [booksOf_eq]
    exact (List.sublist_append_left _ _).subperm
  | freezeTaken _ =>
    exact .kept ho [] List.nil_subperm
      (abandonHeld_books { s with ctrl := { s.ctrl with freezeRequests := s.ctrl.freezeRequests - 1 } })
  | linkCleared => exact discarded_advances (clearLink_books _)
  | boardCleared | powerCleared => exact hardReset_advances _ _ _ _
  | modeEntered m => exact enterMode_advances ho m
  | ruleDisabled index _ hindex =>
    refine .same ho (booksOf_congr ?_ rfl (entrySeqs_map fun e => rfl) rfl)
    change requestBook (headWithout index.toNat s.near.head) = _
    cases s.near.head <;> rfl
  | ringLoaded p cfg _ hcfg hmode hbusy => exact loadRing_advances hhold (slots_of_ringConfigOf hcfg) hmode hbusy
  | _ => exact .same ho rfl

/-! ## The record that the writer writes -/

/-- While the writer writes a record, the queue has it at its head. -/
def WriterBacked (s : State) : Prop := writesRecord s.ring.writer = true → s.ring.queue ≠ []

theorem WriterBacked.of_same (h : WriterBacked s) (hw : u.ring.writer = s.ring.writer) (hq : s.ring.queue ≠ [] → u.ring.queue ≠ []) :
    WriterBacked u := fun hwrites => hq (h (hw ▸ hwrites))

theorem enqueue_nonempty (r : Record) (s : State) : (enqueue r s).ring.queue ≠ [] := by simp

theorem placeRequest_nonempty (r : Record) (next : AfterCapture) (h : s.ring.queue ≠ []) : (placeRequest r next s).ring.queue ≠ [] := by
  unfold placeRequest
  split
  · rw [continueRequest_ring]
    exact enqueue_nonempty r s
  · exact h

theorem placeResponse_nonempty (r : Record) (p : ResponsePacket) (h : s.ring.queue ≠ []) : (placeResponse r p s).ring.queue ≠ [] := by
  unfold placeResponse
  split
  · exact enqueue_nonempty r s
  · exact h

theorem captureRequest_nonempty (r : Option Record) (next : AfterCapture) (h : s.ring.queue ≠ []) :
    (captureRequest r next s).ring.queue ≠ [] := by
  unfold captureRequest
  split
  · rwa [continueRequest_ring]
  · split
    · exact placeRequest_nonempty _ next h
    · exact h
    · rwa [continueRequest_ring, dropRecord_ring_queue]

theorem captureResponse_nonempty (r : Option Record) (p : ResponsePacket) (h : s.ring.queue ≠ []) :
    (captureResponse r p s).ring.queue ≠ [] := by
  unfold captureResponse
  split
  · exact h
  · split
    · exact placeResponse_nonempty _ p h
    · exact h
    · rwa [setResponseHead_ring, dropRecord_ring_queue]

theorem releaseRequest_nonempty (h : s.ring.queue ≠ []) : (releaseRequest s).ring.queue ≠ [] := by
  unfold releaseRequest
  split
  · split
    · exact placeRequest_nonempty _ _ h
    · exact h
  · exact h

theorem releaseResponse_nonempty (h : s.ring.queue ≠ []) : (releaseResponse s).ring.queue ≠ [] := by
  unfold releaseResponse
  split
  · split
    · exact placeResponse_nonempty _ _ h
    · exact h
  · exact h

theorem offerFreedSlots_nonempty (h : s.ring.queue ≠ []) : (offerFreedSlots s).ring.queue ≠ [] := by
  unfold offerFreedSlots
  split
  · exact releaseRequest_nonempty (releaseResponse_nonempty h)
  · exact releaseResponse_nonempty (releaseRequest_nonempty h)

theorem acceptUpdate_nonempty (c' : BitVec 16) (h : s.ring.queue ≠ []) : (acceptUpdate c' s).ring.queue ≠ [] :=
  offerFreedSlots_nonempty (s := { s with ring := { s.ring with
    c := c', overrun := s.ring.overrun && !s.ring.overrunSeen, overrunSeen := false } }) h

theorem placeExpiry_nonempty (e : OrtEntry) (r : Option Record) (h : s.ring.queue ≠ []) : (placeExpiry e r s).ring.queue ≠ [] := by
  unfold placeExpiry
  dsimp only
  split
  · rwa [removeEntry_ring]
  · split
    · split
      · rw [removeEntry_ring]
        exact enqueue_nonempty _ s
      · rwa [keepExpired_ring]
    · rwa [removeEntry_ring]
    · rwa [removeEntry_ring, dropRecord_ring_queue]

theorem expire_nonempty (e : OrtEntry) (h : s.ring.queue ≠ []) : (expire e s).ring.queue ≠ [] := by
  unfold expire
  dsimp only
  split <;> exact placeExpiry_nonempty e _ (by simpa using h)

theorem admitRecord_writer (w : Waiter) (s : State) : (admitRecord w s).ring.writer = s.ring.writer := by
  cases w <;> simp [admitRecord]

theorem admitRecord_nonempty (w : Waiter) (s : State) : (admitRecord w s).ring.queue ≠ [] := by
  cases w <;> simp [admitRecord]

theorem advanceWriter_backed (h : WriterBacked s) : WriterBacked (advanceWriter s) := by
  unfold advanceWriter
  split
  next hidle => exact h
  next p hfirst =>
    have hne := h (by rw [hfirst]; rfl)
    split
    next hq => exact absurd hq hne
    next q rest hq => split <;> exact fun _ => hne
  next p hsecond => exact fun _ => h (by rw [hsecond]; rfl)
  next => exact fun hwrites => nomatch hwrites
  next => exact fun hwrites => nomatch hwrites

/-- Every command keeps a record in the queue while the writer writes one. -/
theorem Effect.keeps_writerBacked {c : Instr} (h : Effect s c u) (hs : WriterBacked s) : WriterBacked u := by
  have same : ∀ {t : State}, t.ring.writer = s.ring.writer → t.ring.queue = s.ring.queue → WriterBacked t := fun hw hq =>
    hs.of_same hw fun h => by rwa [hq]
  cases h with
  | consumed p c' => exact hs.of_same (by simp) fun h => acceptUpdate_nonempty c' (s := bufferRequest p s) h
  | requestResolved b m x refused next hb hv =>
    exact hs.of_same (by simp [hv.ring]) fun h => captureRequest_nonempty _ _ (by simpa [hv.ring] using h)
  | @responseResolved b e m x refused out v hb hf hv =>
    have hring : (resolve m x refused v).1.ring.queue = s.ring.queue := by rw [resolve_ring_queue, hv.eq_with]; rfl
    refine hs.of_same ?_ fun h => captureResponse_nonempty _ _ (by rwa [hring])
    rw [captureResponse_ring_writer, resolve_ring_writer, hv.eq_with]
    rfl
  | readExpired e src tag hf => exact hs.of_same (by simp) (expire_nonempty e)
  | admitted w => exact hs.of_same (admitRecord_writer w s) fun _ => admitRecord_nonempty w s
  | writerGranted p => exact advanceWriter_backed (s := sendFar p .writer s) hs
  | writerStarted q rest _ hq => exact fun _ hnil => nomatch hq.symm.trans hnil
  | linkCleared | boardCleared | powerCleared | ringLoaded => exact fun hwrites => nomatch hwrites
  | orphanRestored b e hb hf hv =>
    exact same (congrArg RingController.writer hv.ring) (congrArg RingController.queue hv.ring)
  | malformed b => exact same (by rw [malformedAtHead_ring, sourceClash_ring]) (by rw [malformedAtHead_ring, sourceClash_ring])
  | stray b => exact same (by rw [strayAtHead_ring]) (by rw [strayAtHead_ring])
  | guardDropped b hb hv => exact same (by simp [hv.ring]) (by simp [hv.ring])
  | duplicate b => exact same (by simp [duplicateAtHead]) (by simp [duplicateAtHead])
  | modeEntered m =>
    cases m with
    | active => exact same rfl rfl
    | frozen => exact same (by simp [enterMode]) (by simp [enterMode])
    | bypass => exact same (by simp [enterMode]) (by simp [enterMode])
  | consumerRejected | readWaits | requestGranted | heldRequestExpired | heldResponseExpired | freezeTaken | orphanExpired =>
    exact same (by simp) (by simp)
  | _ => exact same rfl rfl

/-! ## The ring -/

theorem Effect.keeps_ringSound {c : Instr} (h : Effect s c u) (hs : RingSound s) : RingSound u := by
  have hadvances := h.advances (o := False) hs (fun h => h.elim) fun h => h.elim
  have hwithin : (booksOf s).Within := ⟨hs.slots, by rw [booksOf_reserved]; exact hs.reserved⟩
  obtain ⟨hslots, hres⟩ := Books.Path.keeps_within hadvances.path hwithin
  rw [booksOf_reserved] at hres
  exact ⟨h.keeps_keysUnique hs.keys, hslots, hres, h.keeps_writerBacked hs.writing⟩

end Sys2Proof.Machine

open Sys2Proof.Machine in
/-- Settles O57: no move of the books of the ring takes a slot that is not free. -/
theorem ringKept : Obligations.RingKept :=
  OutsidePort.stepKeeps ⟨fun _ _ h => ⟨⟨h.keys.backed, h.keys.unique, h.keys.waiting⟩, h.slots, h.reserved, h.writing⟩,
    fun _ _ h => ⟨⟨h.keys.backed, h.keys.unique, h.keys.waiting⟩, h.slots, h.reserved, h.writing⟩⟩
    fun _ _ _ hs h => h.keeps_ringSound hs

end

section
/-! PROOFS. O58: holds stand in ACTIVE only, OVERRUN is clear in LOSSLESS mode, and the records keep the order of their creation. -/

namespace Sys2Proof.Machine

set_option Elab.async false

open Books

variable {s u : State}

/-! ## Held items (R101, R106) -/

theorem holdSound_iff (s : State) : HoldSound s ↔ (heldSeqs s ≠ [] → s.ctrl.mode = .active) := by
  rw [heldSeqs_eq]
  constructor
  · intro h hne
    by_cases hreq : (requestBook s.near.head).2 = []
    · exact h .response fun hnone => hne (by rw [hreq, responseBook_notHeld.mpr hnone]; rfl)
    · exact h .request fun hnone => hreq (requestBook_notHeld.mpr hnone)
  · intro h side hside
    refine h fun hnil => hside ?_
    obtain ⟨hreq, hrsp⟩ := List.append_eq_nil_iff.mp hnil
    cases side with
    | request => exact requestBook_notHeld.mp hreq
    | response => exact responseBook_notHeld.mp hrsp

theorem HoldSound.of_none (h : heldSeqs u = []) : HoldSound u := (holdSound_iff u).mpr fun hne => absurd h hne

theorem HoldSound.of_fewer (hs : HoldSound s) (h : heldSeqs u ≠ [] → heldSeqs s ≠ []) (hmode : u.ctrl.mode = s.ctrl.mode) : HoldSound u :=
  (holdSound_iff u).mpr fun hne => hmode ▸ (holdSound_iff s).mp hs (h hne)

theorem HoldSound.of_heads (hs : HoldSound s) (hn : (requestBook u.near.head).2 = (requestBook s.near.head).2 ∨ (requestBook u.near.head).2 = [])
    (hf : (responseBook u.far.head).2 = (responseBook s.far.head).2 ∨ (responseBook u.far.head).2 = [])
    (hmode : u.ctrl.mode = s.ctrl.mode) : HoldSound u := by
  refine hs.of_fewer (fun hne hnil => hne ?_) hmode
  rw [heldSeqs_eq] at hnil ⊢
  obtain ⟨hreq, hrsp⟩ := List.append_eq_nil_iff.mp hnil
  exact List.append_eq_nil_iff.mpr ⟨hn.elim (·.trans hreq) id, hf.elim (·.trans hrsp) id⟩

theorem releaseRequest_holds (s : State) : (requestBook (releaseRequest s).near.head).2 = (requestBook s.near.head).2 ∨
    (requestBook (releaseRequest s).near.head).2 = [] := by
  cases hfree : slotFree s with
  | false => exact .inl (by rw [releaseRequest_of_noSlot hfree])
  | true => exact .inr (releaseRequest_notHeld hfree)

theorem releaseResponse_holds (s : State) : (responseBook (releaseResponse s).far.head).2 = (responseBook s.far.head).2 ∨
    (responseBook (releaseResponse s).far.head).2 = [] := by
  cases hfree : slotFree s with
  | false => exact .inl (by rw [releaseResponse_of_noSlot hfree])
  | true => exact .inr (releaseResponse_notHeld hfree)

theorem HoldSound.offerFreedSlots (hs : HoldSound s) : HoldSound (offerFreedSlots s) := by
  unfold Machine.offerFreedSlots
  split
  · exact (hs.of_heads (.inl (by rw [releaseResponse_near])) (releaseResponse_holds s) (by rw [releaseResponse_ctrl])).of_heads
      (releaseRequest_holds _) (.inl (by rw [releaseRequest_far])) (by rw [releaseRequest_ctrl])
  · exact (hs.of_heads (releaseRequest_holds s) (.inl (by rw [releaseRequest_far])) (by rw [releaseRequest_ctrl])).of_heads
      (.inl (by rw [releaseResponse_near])) (releaseResponse_holds _) (by rw [releaseResponse_ctrl])

/-- A record is created in ACTIVE alone. -/
theorem resolve_active {m : RuleSet} {x : Transaction} {refused : Bool} {v : State} {r : Record} (h : (resolve m x refused v).2 = some r) :
    v.ctrl.mode = .active := by
  obtain ⟨hnone, -⟩ | ⟨r, -, -, hactive, -⟩ := resolve_record m x refused v
  · exact nomatch hnone.symm.trans h
  · exact hactive

theorem Effect.keeps_holdSound {c : Instr} (h : Effect s c u) (hs : HoldSound s) : HoldSound u := by
  have noRequest : ∀ {t : State}, requestBook t.near.head = ([], []) → t.far.head = s.far.head → t.ctrl.mode = s.ctrl.mode → HoldSound t :=
    fun hn hf hmode => hs.of_heads (.inr (by rw [hn])) (.inl (by rw [hf])) hmode
  have noResponse : ∀ {t : State}, responseBook t.far.head = ([], []) → t.near.head = s.near.head → t.ctrl.mode = s.ctrl.mode → HoldSound t :=
    fun hf hn hmode => hs.of_heads (.inl (by rw [hn])) (.inr (by rw [hf])) hmode
  have same : ∀ {t : State}, t.near.head = s.near.head → t.far.head = s.far.head → t.ctrl.mode = s.ctrl.mode → HoldSound t :=
    fun hn hf hmode => hs.of_heads (.inl (by rw [hn])) (.inl (by rw [hf])) hmode
  have active : ∀ {t : State}, t.ctrl.mode = .active → HoldSound t := fun hmode _ _ => hmode
  cases h with
  | consumed p c' =>
    exact HoldSound.offerFreedSlots (s := { bufferRequest p s with ring := { (bufferRequest p s).ring with
      c := c', overrun := (bufferRequest p s).ring.overrun && !(bufferRequest p s).ring.overrunSeen, overrunSeen := false } }) hs
  | consumerRejected p => exact same (by simp) (by simp) (by simp)
  | malformed b =>
    refine noRequest ?_ (by rw [malformedAtHead_far, sourceClash_far]) ?_
    · rcases malformedAtHead_near b.packet (sourceClash b.packet s) with h | h <;> rw [h] <;> rfl
    · unfold malformedAtHead
      dsimp only
      split <;> simp
  | duplicate b => exact noRequest rfl (by simp [duplicateAtHead]) (by simp [duplicateAtHead])
  | guardDropped b _ hv => exact noRequest rfl (by simp [hv.far]) (by simp [hv.ctrl])
  | @requestResolved b m x refused next v _ hv =>
    cases hr : (resolve m x refused v).2 with
    | none => exact noRequest (continueRequest_book next _) (by simp [captureRequest, hv.far]) (by simp [captureRequest, hv.ctrl])
    | some r => exact active (by simpa using resolve_active hr)
  | readWaits b w => exact noRequest rfl (by simp) (by simp)
  | stray b =>
    refine noResponse rfl (by rw [strayAtHead_near]) ?_
    unfold strayAtHead
    dsimp only
    split <;> rfl
  | orphanRestored b e _ _ hv =>
    exact noResponse rfl (by rw [orphanAtHead_near, hv.near]) (congrArg ModeControl.mode hv.ctrl)
  | @responseResolved b e m x refused out v _ _ hv =>
    cases hr : (resolve m x refused v).2 with
    | none =>
      refine noResponse rfl ?_ ?_ <;> simp only [captureResponse, setResponseHead_near, setResponseHead_ctrl, resolve_near, resolve_ctrl_mode] <;>
        rw [hv.eq_with] <;> rfl
    | some r => exact active (by simpa using resolve_active hr)
  | readExpired e => exact same (by simp) (by simp) (by simp)
  | admitted w =>
    cases w with
    | request r next => exact noRequest (continueRequest_book next _) (by simp [admitRecord]) (by simp [admitRecord])
    | response r p => exact noResponse rfl rfl rfl
    | entry r e => exact same (by simp [admitRecord]) (by simp [admitRecord]) (by simp [admitRecord])
  | requestGranted f => exact noRequest (by rw [grantRequest_near]; rfl) (by simp) (by simp)
  | writerGranted p => exact same (by simp) (by simp) (by simp)
  | responseGranted p => exact noResponse rfl rfl rfl
  | bypassed b | damaged b | entryCreated w b | refusalAdmitted r | countedRefusalAdmitted r => exact noRequest rfl rfl rfl
  | responseBypassed b => exact noResponse rfl rfl rfl
  | heldRequestExpired =>
    refine hs.of_heads (.inr ?_) (.inl (by simp)) (by simp)
    exact requestBook_notHeld.mpr (abandonHeldRequest_notHeld _)
  | heldResponseExpired =>
    refine hs.of_heads (.inl (by simp)) (.inr ?_) (by simp)
    exact responseBook_notHeld.mpr (abandonHeldResponse_notHeld _)
  | freezeTaken _ =>
    refine .of_none (congrArg Books.helds (abandonHeld_books { s with ctrl := { s.ctrl with freezeRequests := s.ctrl.freezeRequests - 1 } }))
  | modeEntered m =>
    cases m with
    | active => exact active rfl
    | frozen => exact .of_none (congrArg Books.helds (abandonHeld_books s))
    | bypass => exact .of_none (congrArg Books.helds (enterBypass_books s))
  | linkCleared | boardCleared | powerCleared => exact .of_none rfl
  | ruleDisabled index =>
    refine hs.of_heads (.inl ?_) (.inl rfl) rfl
    change (requestBook (headWithout index.toNat s.near.head)).2 = _
    cases s.near.head <;> rfl
  | _ => exact same rfl rfl rfl

/-! ## OVERRUN (R133, R143) -/

theorem OverrunSound.of_same (hs : OverrunSound s) (hov : u.ring.overrun = true → s.ring.overrun = true)
    (hconfig : u.ring.config.mode = s.ring.config.mode) : OverrunSound u := fun h => hconfig ▸ hs (hov h)

theorem captureRequest_overrun (r : Option Record) (next : AfterCapture) (hs : OverrunSound s) : OverrunSound (captureRequest r next s) := by
  unfold captureRequest
  split
  · exact hs.of_same (by simp) (by simp)
  · split
    · exact hs.of_same (by simp) (by simp)
    · exact hs
    next hfate => exact fun _ => by simpa using recordFate_drop hfate

theorem captureResponse_overrun (r : Option Record) (p : ResponsePacket) (hs : OverrunSound s) : OverrunSound (captureResponse r p s) := by
  unfold captureResponse
  split
  · exact hs
  · split
    · exact hs.of_same (by simp) (by simp)
    · exact hs
    next hfate => exact fun _ => by simpa using recordFate_drop hfate

theorem expire_overrun (e : OrtEntry) (hs : OverrunSound s) : OverrunSound (expire e s) := by
  have place : ∀ (r : Option Record) (t : State), OverrunSound t → OverrunSound (placeExpiry e r t) := by
    intro r t ht
    unfold placeExpiry
    dsimp only
    split
    · exact ht
    · split
      · split
        · exact ht
        · exact ht
      · exact ht
      next hfate => exact fun _ => by simpa using recordFate_drop hfate
  unfold expire
  dsimp only
  split <;> exact place _ _ (hs.of_same (by simp) (by simp))

theorem Effect.keeps_overrunSound {c : Instr} (h : Effect s c u) (hs : OverrunSound s) : OverrunSound u := by
  have same : ∀ {t : State}, t.ring.overrun = s.ring.overrun → t.ring.config.mode = s.ring.config.mode → OverrunSound t :=
    fun hov hconfig => hs.of_same (by rw [hov]; exact id) hconfig
  cases h with
  | consumed p c' =>
    refine hs.of_same (fun h => ?_) (by simp)
    rw [acceptUpdate, offerFreedSlots_ring_overrun] at h
    exact ((Bool.and_eq_true _ _).mp h).1
  | malformed b => exact same (by rw [malformedAtHead_ring, sourceClash_ring]) (by rw [malformedAtHead_ring, sourceClash_ring])
  | duplicate b => exact same (by simp [duplicateAtHead]) (by simp [duplicateAtHead])
  | guardDropped b _ hv => exact same (by simp [hv.ring]) (by simp [hv.ring])
  | requestResolved b m x refused next _ hv =>
    exact captureRequest_overrun _ _ (hs.of_same (by simp [hv.ring]) (by simp [hv.ring]))
  | stray b => exact same (by rw [strayAtHead_ring]) (by rw [strayAtHead_ring])
  | orphanRestored b e _ _ hv => exact same (congrArg RingController.overrun hv.ring) (congrArg (·.config.mode) hv.ring)
  | @responseResolved b e m x refused out v _ _ hv =>
    have hring : v.ring = s.ring := by rw [hv.eq_with]; rfl
    exact captureResponse_overrun _ _ (hs.of_same (by simp [hring]) (by simp [hring]))
  | readExpired e => exact expire_overrun e hs
  | admitted w => exact same (by cases w <;> simp [admitRecord]) (by cases w <;> simp [admitRecord])
  | writerGranted p =>
    have hkept : ∀ t : State, (advanceWriter t).ring.overrun = t.ring.overrun ∧ (advanceWriter t).ring.config.mode = t.ring.config.mode := by
      intro t
      unfold advanceWriter
      split <;> (try split) <;> (try split) <;> exact ⟨rfl, rfl⟩
    exact same (hkept (sendFar p .writer s)).1 (hkept (sendFar p .writer s)).2
  | linkCleared =>
    refine same rfl ?_
    change (abortConfig s.ring.config).mode = _
    unfold abortConfig
    split <;> rfl
  | boardCleared | powerCleared | ringLoaded => exact fun h => nomatch h
  | modeEntered m => exact same (by simp) (by simp)
  | consumerRejected | readWaits | requestGranted | heldRequestExpired | heldResponseExpired | freezeTaken | orphanExpired =>
    exact same (by simp) (by simp)
  | _ => exact same rfl rfl

/-! ## The order of the records -/

theorem queueOrdered_iff (s : State) : QueueOrdered s ↔
    RingSound s ∧ HoldSound s ∧ OverrunSound s ∧ (booksOf s).Ordered ∧ (booksOf s).Full := by
  constructor
  · intro ⟨hring, hhold, hoverrun, hslots, hplaced, hqueue, hwaiting, hheld, hdistinct, hfresh, hfull⟩
    exact ⟨hring, hhold, hoverrun, ⟨hslots, hplaced, hqueue, hwaiting, hheld, hdistinct, hfresh⟩, (full_booksOf s).mpr hfull⟩
  · intro ⟨hring, hhold, hoverrun, ⟨hslots, hplaced, hqueue, hwaiting, hheld, hdistinct, hfresh⟩, hfull⟩
    exact ⟨hring, hhold, hoverrun, hslots, hplaced, hqueue, hwaiting, hheld, hdistinct, hfresh, (full_booksOf s).mp hfull⟩

/-- Every command keeps the records in order, as long as none is 2^32 - 1 creations old. -/
theorem Effect.keeps_queueOrdered {c : Instr} (h : Effect s c u) (hs : QueueOrdered s)
    (hnext : s.ring.seq + 1 ∉ queuedSeqs s ++ waitingSeqs s ++ heldSeqs s) : QueueOrdered u := by
  obtain ⟨hring, hhold, hoverrun, hordered, hfull⟩ := (queueOrdered_iff s).mp hs
  have hadvances := h.advances (o := True) hring (fun _ => ⟨hordered, hfull, hnext, hoverrun⟩) fun _ => hhold
  have hwithin : (booksOf s).Within := ⟨hring.slots, by rw [booksOf_reserved]; exact hring.reserved⟩
  exact (queueOrdered_iff u).mpr ⟨h.keeps_ringSound hring, h.keeps_holdSound hhold, h.keeps_overrunSound hoverrun,
    Books.Path.keeps_ordered hadvances.path trivial hwithin hordered, hadvances.full trivial⟩

theorem queueOrdered_port (s : State) (p : MgmtPort) (h : QueueOrdered s) : QueueOrdered { s with port := p } :=
  ⟨⟨⟨h.ring.keys.backed, h.ring.keys.unique, h.ring.keys.waiting⟩, h.ring.slots, h.ring.reserved, h.ring.writing⟩, h.hold, h.overrun,
    h.slots, h.placed, h.queue, h.waiting, h.held, h.distinct, h.fresh, h.full⟩

theorem queueOrdered_pending (s : State) (q : List Instr) (h : QueueOrdered s) : QueueOrdered { s with pending := q } :=
  ⟨⟨⟨h.ring.keys.backed, h.ring.keys.unique, h.ring.keys.waiting⟩, h.ring.slots, h.ring.reserved, h.ring.writing⟩, h.hold, h.overrun,
    h.slots, h.placed, h.queue, h.waiting, h.held, h.distinct, h.fresh, h.full⟩

end Sys2Proof.Machine

open Sys2Proof.Machine in
/-- Settles O58: the books of the ring move so that the order of creation stands, under every command. -/
theorem queueKeepsOrder : Obligations.QueueKeepsOrder := by
  intro s hs hnext
  refine ifNext_step hs fun c rest t ht => ?_
  obtain ⟨u, p, hu, rfl, -⟩ := exec_effect c _ t ht
  exact queueOrdered_port u p (hu.keeps_queueOrdered (queueOrdered_pending s rest hs) hnext)

end

section
/-! PROOFS. O55: every buffer stays within its size and every count of credits within its limit. -/

namespace Sys2Proof.Machine

set_option Elab.async false

variable {s u : State}

/-! ## The near side -/

/-- What `Bounded` says of the near side. -/
structure NearBounded (up : Bool) (n : NearPort) : Prop where
  backed   : n.buffer = [] → n.head = .fresh
  granted  : up = true → n.granted + n.buffer.length = Config.requestBufferSize
  cleared  : up = false → n.buffer = [] ∧ n.granted = 0 ∧ n.credits = 0 ∧ n.refusals = []
  credits  : n.credits ≤ Config.creditLimit
  refusals : n.refusals.length ≤ Config.refusalQueueSize

theorem NearBounded.up_of_buffer {up : Bool} {n : NearPort} (h : NearBounded up n) (hn : n.buffer ≠ []) : up = true := by
  cases up with
  | true => rfl
  | false => exact absurd (h.cleared rfl).1 hn

theorem NearBounded.up_of_head {up : Bool} {n : NearPort} (h : NearBounded up n) (hn : n.head ≠ .fresh) : n.buffer ≠ [] :=
  fun hb => hn (h.backed hb)

theorem NearBounded.left {up : Bool} {n : NearPort} (h : NearBounded up n) (hn : n.buffer ≠ []) : NearBounded up (leftNear n) := by
  have hup := h.up_of_buffer hn
  obtain ⟨b, l, hb⟩ := List.exists_cons_of_ne_nil hn
  have hsum := h.granted hup
  rw [hb, List.length_cons] at hsum
  refine ⟨fun _ => rfl, fun _ => ?_, (fun hdown => nomatch hup.symm.trans hdown), h.credits, h.refusals⟩
  simp only [leftNear, hb, List.tail_cons]
  omega

theorem NearBounded.position {up : Bool} {n : NearPort} (h : NearBounded up n) (hn : n.buffer ≠ []) (k : RequestHead) :
    NearBounded up { n with head := k } :=
  ⟨fun hb => absurd hb hn, h.granted, h.cleared, h.credits, h.refusals⟩

theorem NearBounded.moved {up : Bool} {n n' : NearPort} (h : NearBounded up n) (hn : n.buffer ≠ []) (hm : NearMoved n n') :
    NearBounded up n' := by
  obtain rfl | ⟨k, -, rfl⟩ := hm
  · exact h.left hn
  · exact h.position hn k

theorem NearBounded.arrived {n : NearPort} (h : NearBounded true n) (hroom : n.buffer.length < Config.requestBufferSize) (b : BufferedRequest) :
    NearBounded true { n with buffer := n.buffer ++ [b], granted := n.granted - 1 } := by
  have hsum := h.granted rfl
  refine ⟨fun hb => by simp at hb, fun _ => ?_, nofun, h.credits, h.refusals⟩
  simp only [List.length_append, List.length_singleton]
  omega

theorem NearBounded.releaseRequest {up : Bool} (h : NearBounded up s.near) : NearBounded up (releaseRequest s).near := by
  unfold Machine.releaseRequest
  split
  next k next hhead =>
    have hn := h.up_of_head (by rw [hhead]; exact fun h => nomatch h)
    split
    · exact h.moved hn (placeRequest_moves _ next s)
    · exact h
  · exact h

theorem NearBounded.offerFreedSlots {up : Bool} (h : NearBounded up s.near) : NearBounded up (offerFreedSlots s).near := by
  unfold Machine.offerFreedSlots
  split
  · exact NearBounded.releaseRequest (by rw [releaseResponse_near]; exact h)
  · rw [releaseResponse_near]
    exact h.releaseRequest

theorem NearBounded.abandonHeldRequest {up : Bool} (h : NearBounded up s.near) : NearBounded up (abandonHeldRequest s).near := by
  unfold Machine.abandonHeldRequest
  split
  next k next hhead =>
    exact h.moved (h.up_of_head (by rw [hhead]; exact fun h => nomatch h)) (continueRequest_moves next (loseRecord s))
  · exact h

theorem NearBounded.abandonHeld {up : Bool} (h : NearBounded up s.near) : NearBounded up (abandonHeld s).near := by
  rw [Machine.abandonHeld, abandonHeldResponse_near]
  exact h.abandonHeldRequest

/-- A change of the head that leaves a fresh one fresh. -/
theorem NearBounded.rehead {up : Bool} {n : NearPort} (h : NearBounded up n) (f : RequestHead → RequestHead) (hf : f .fresh = .fresh) :
    NearBounded up { n with head := f n.head } :=
  ⟨fun hb => by rw [h.backed hb, hf], h.granted, h.cleared, h.credits, h.refusals⟩

theorem NearBounded.enterMode {up : Bool} (h : NearBounded up s.near) (m : Mode) : NearBounded up (enterMode m s).near := by
  cases m with
  | active => exact h
  | frozen => exact h.abandonHeld
  | bypass =>
    exact NearBounded.abandonHeld
      (s := clearUses { s with ort := s.ort.map orphan, near := { s.near with head := orphanHead s.near.head } }) (h.rehead orphanHead rfl)

theorem NearBounded.of_cleared (sent : List ResponsePacket) : NearBounded false (State.clearedNear 0 sent) :=
  ⟨fun _ => rfl, nofun, fun _ => ⟨rfl, rfl, rfl, rfl⟩, Nat.zero_le _, Nat.zero_le _⟩

/-- A response that enters the Refusal Queue: its request leaves. -/
theorem NearBounded.admitted {up : Bool} {n : NearPort} (h : NearBounded up n) {r : ResponsePacket} {counts : Bool}
    (hhead : n.head = .waitRefusal r counts) (hroom : n.refusals.length < Config.refusalQueueSize) :
    NearBounded up (leftNear { n with refusals := n.refusals ++ [r] }) := by
  have hn := h.up_of_head (by rw [hhead]; exact fun h => nomatch h)
  have hup := h.up_of_buffer hn
  have hq : NearBounded up { n with refusals := n.refusals ++ [r] } :=
    ⟨h.backed, h.granted, (fun hdown => nomatch hup.symm.trans hdown), h.credits, by simp only [List.length_append, List.length_singleton]; omega⟩
  exact hq.left hn

theorem addCredits_le {held n : Nat} (h : held ≤ Config.creditLimit) : addCredits held n ≤ Config.creditLimit := by
  unfold addCredits
  split <;> assumption

theorem NearBounded.sent {up : Bool} {n : NearPort} (h : NearBounded up n) (w : NearContender) (l : List ResponsePacket) :
    NearBounded up { n with credits := n.credits - 1, lastWinner := w, sent := l } :=
  ⟨h.backed, h.granted, fun hdown => by
    obtain ⟨hb, hg, hc, hr⟩ := h.cleared hdown
    exact ⟨hb, hg, by simp only [hc], hr⟩, (Nat.sub_le _ _).trans h.credits, h.refusals⟩

theorem Effect.keeps_nearBounded {c : Instr} (h : Effect s c u) (hs : NearBounded s.linkUp s.near) : NearBounded u.linkUp u.near := by
  have arrives : ∀ p, s.linkUp = true → s.near.buffer.length < Config.requestBufferSize → NearBounded s.linkUp (bufferRequest p s).near :=
    fun p hup hroom => by rw [hup] at hs ⊢; exact hs.arrived hroom _
  have atHead_moves : ∀ {b : BufferedRequest} {n : NearPort}, atHead b s → NearMoved s.near n → NearBounded s.linkUp n := fun hb hm =>
    hs.moved (buffer_ne_nil_of_atHead hb) hm
  cases h with
  | arrived p hup hroom => exact arrives p hup hroom
  | consumed p c' hup hroom =>
    rw [acceptUpdate_linkUp]
    exact NearBounded.offerFreedSlots (s := { bufferRequest p s with ring := { (bufferRequest p s).ring with
      c := c', overrun := (bufferRequest p s).ring.overrun && !(bufferRequest p s).ring.overrunSeen, overrunSeen := false } })
      (arrives p hup hroom)
  | consumerRejected p hup hroom =>
    rw [rejectUpdate_linkUp, rejectUpdate_near]
    exact arrives p hup hroom
  | nearCredit n hup =>
    exact ⟨hs.backed, hs.granted, (fun hdown => nomatch hup.symm.trans hdown), addCredits_le hs.credits, hs.refusals⟩
  | bypassed b hb => exact atHead_moves hb (.inr ⟨.ready (untracked b.packet false), nofun, rfl⟩)
  | damaged b hb => exact atHead_moves hb (.inr ⟨.ready (untracked b.packet true), nofun, rfl⟩)
  | malformed b hb =>
    have hup : (malformedAtHead b.packet (sourceClash b.packet s)).linkUp = s.linkUp := by
      unfold malformedAtHead
      dsimp only
      split <;> simp
    rw [hup]
    obtain h | h := malformedAtHead_near b.packet (sourceClash b.packet s) <;> rw [h, sourceClash_near]
    · exact atHead_moves hb (.inr ⟨.waitRefusal (malformedResponse b.packet) false, nofun, rfl⟩)
    · exact atHead_moves hb (.inl rfl)
  | duplicate b hb => exact sourceClash_linkUp s b.packet ▸ atHead_moves hb (.inr ⟨.ready (untracked b.packet true), nofun, by simp [duplicateAtHead]⟩)
  | guardDropped b hb hv =>
    rw [count_linkUp, popRequest_linkUp, hv.linkUp, count_near, popRequest_near, hv.near]
    exact atHead_moves hb (.inl rfl)
  | @requestResolved b m x refused next v hb hv =>
    rw [captureRequest_linkUp, resolve_linkUp, hv.linkUp]
    have hm := captureRequest_moves (resolve m x refused v).2 next (resolve m x refused v).1
    rw [resolve_near, hv.near] at hm
    exact atHead_moves hb hm
  | readWaits b w hb =>
    rw [setHead_linkUp, sourceClash_linkUp, setHead_near, sourceClash_near]
    exact atHead_moves hb (.inr ⟨.waitOrt w, nofun, rfl⟩)
  | entryCreated w b hhead => exact hs.position (hs.up_of_head (by rw [hhead]; exact fun h => nomatch h)) _
  | refusalAdmitted r hhead hroom => exact hs.admitted hhead hroom
  | countedRefusalAdmitted r hhead hroom => exact hs.admitted hhead hroom
  | admitted w _ hw =>
    cases w with
    | request r next =>
      have hhead := waitRoom_of_firstWaiter hw
      rw [admitRecord, continueRequest_linkUp]
      exact hs.moved (hs.up_of_head (by rw [hhead]; exact fun h => nomatch h)) (continueRequest_moves next (enqueue r s))
    | response r p => exact hs
    | entry r e => exact hs
  | requestGranted f _ _ hhead =>
    rw [grantRequest_linkUp, grantRequest_near]
    exact hs.left (hs.up_of_head (by rw [hhead]; exact fun h => nomatch h))
  | writerGranted p =>
    rw [advanceWriter_linkUp, advanceWriter_near]
    exact hs
  | responseGranted p => exact hs.sent .memory _
  | refusalGranted p rest hup _ hq =>
    have hrest : NearBounded s.linkUp { s.near with refusals := rest } :=
      ⟨hs.backed, hs.granted, (fun hdown => nomatch hup.symm.trans hdown), hs.credits, by
        have := hs.refusals
        rw [hq, List.length_cons] at this
        exact (Nat.le_succ _).trans this⟩
    exact hrest.sent .refusalQueue _
  | stray b =>
    have hup : (strayAtHead b s).linkUp = s.linkUp := by
      unfold strayAtHead
      dsimp only
      split <;> rfl
    rw [hup, strayAtHead_near]
    exact hs
  | orphanRestored b e _ _ hv =>
    change NearBounded _ (orphanAtHead b e _).near
    rw [orphanAtHead_near, hv.near]
    exact hv.linkUp.symm ▸ hs
  | responseResolved b e m x refused out _ _ hv =>
    rw [captureResponse_linkUp, resolve_linkUp, captureResponse_near, resolve_near, hv.eq_with]
    exact hs
  | readExpired e =>
    rw [expire_linkUp, expire_near]
    exact hs
  | heldRequestExpired =>
    rw [abandonHeldRequest_linkUp]
    exact NearBounded.abandonHeldRequest (s := holdRanOut s) hs
  | heldResponseExpired =>
    rw [abandonHeldResponse_linkUp, abandonHeldResponse_near]
    exact hs
  | freezeTaken _ =>
    rw [enterFrozen_linkUp]
    exact NearBounded.enterMode (s := { s with ctrl := { s.ctrl with freezeRequests := s.ctrl.freezeRequests - 1 } }) hs .frozen
  | modeEntered m =>
    rw [enterMode_linkUp]
    exact hs.enterMode m
  | ruleDisabled index => exact hs.rehead (headWithout index.toNat) rfl
  | linkCleared | boardCleared | powerCleared => exact .of_cleared _
  | broughtUp r hdown =>
    obtain ⟨hb, -, -, hr⟩ := hs.cleared hdown
    refine ⟨hs.backed, fun _ => ?_, nofun, Nat.zero_le _, hs.refusals⟩
    simp [bringUp, hb]
  | _ => exact hs

/-! ## The far side -/

/-- What `Bounded` says of the far side. -/
structure FarBounded (up : Bool) (f : FarPort) : Prop where
  backed  : f.buffer = [] → f.head = .fresh
  granted : up = true → f.granted + f.buffer.length = Config.responseBufferSize
  cleared : up = false → f.buffer = [] ∧ f.granted = 0 ∧ f.credits = 0
  credits : f.credits ≤ Config.creditLimit

theorem FarBounded.buffer_of_head {up : Bool} {f : FarPort} (h : FarBounded up f) (hf : f.head ≠ .fresh) : f.buffer ≠ [] :=
  fun hb => hf (h.backed hb)

theorem FarBounded.position {up : Bool} {f : FarPort} (h : FarBounded up f) (hf : f.buffer ≠ []) (k : ResponseHead) :
    FarBounded up { f with head := k } :=
  ⟨fun hb => absurd hb hf, h.granted, h.cleared, h.credits⟩

theorem FarBounded.left {up : Bool} {f : FarPort} (h : FarBounded up f) (hf : f.buffer ≠ []) :
    FarBounded up { f with buffer := f.buffer.tail, head := .fresh, granted := f.granted + 1 } := by
  have hup : up = true := by
    cases up with
    | true => rfl
    | false => exact absurd (h.cleared rfl).1 hf
  obtain ⟨b, l, hb⟩ := List.exists_cons_of_ne_nil hf
  have hsum := h.granted hup
  rw [hb, List.length_cons] at hsum
  refine ⟨fun _ => rfl, fun _ => ?_, (fun hdown => nomatch hup.symm.trans hdown), h.credits⟩
  simp only [hb, List.tail_cons]
  omega

theorem FarBounded.sent {up : Bool} {f : FarPort} (h : FarBounded up f) (w : FarContender) (l : List RequestPacket) :
    FarBounded up { f with credits := f.credits - 1, lastWinner := w, sent := l } :=
  ⟨h.backed, h.granted, fun hdown => by
    obtain ⟨hb, hg, hc⟩ := h.cleared hdown
    exact ⟨hb, hg, by simp only [hc]⟩, (Nat.sub_le _ _).trans h.credits⟩

theorem placeResponse_moves (r : Record) (p : ResponsePacket) (s : State) : ∃ k, (placeResponse r p s).far = { s.far with head := k } := by
  unfold placeResponse
  split <;> exact ⟨_, rfl⟩

theorem captureResponse_moves (r : Option Record) (p : ResponsePacket) (s : State) :
    ∃ k, (captureResponse r p s).far = { s.far with head := k } := by
  unfold captureResponse
  split
  · exact ⟨_, rfl⟩
  · split
    · exact placeResponse_moves _ p s
    · exact ⟨_, rfl⟩
    · exact ⟨_, by rw [setResponseHead_far, dropRecord_far]⟩

theorem FarBounded.releaseResponse {up : Bool} (h : FarBounded up s.far) : FarBounded up (releaseResponse s).far := by
  unfold Machine.releaseResponse
  split
  next k p hhead =>
    have hf := h.buffer_of_head (by rw [hhead]; exact fun h => nomatch h)
    split
    · obtain ⟨k, hk⟩ := placeResponse_moves (heldRecord k s.time) p s
      rw [hk]
      exact h.position hf k
    · exact h
  · exact h

theorem FarBounded.offerFreedSlots {up : Bool} (h : FarBounded up s.far) : FarBounded up (offerFreedSlots s).far := by
  unfold Machine.offerFreedSlots
  split
  · rw [releaseRequest_far]
    exact h.releaseResponse
  · exact FarBounded.releaseResponse (by rw [releaseRequest_far]; exact h)

theorem FarBounded.abandonHeldResponse {up : Bool} (h : FarBounded up s.far) : FarBounded up (abandonHeldResponse s).far := by
  unfold Machine.abandonHeldResponse
  split
  next k p hhead => exact h.position (h.buffer_of_head (by rw [hhead]; exact fun h => nomatch h)) _
  · exact h

theorem FarBounded.abandonHeld {up : Bool} (h : FarBounded up s.far) : FarBounded up (abandonHeld s).far :=
  FarBounded.abandonHeldResponse (by rw [abandonHeldRequest_far]; exact h)

theorem FarBounded.enterMode {up : Bool} (h : FarBounded up s.far) (m : Mode) : FarBounded up (enterMode m s).far := by
  cases m with
  | active => exact h
  | frozen => exact h.abandonHeld
  | bypass =>
    exact FarBounded.abandonHeld
      (s := clearUses { s with ort := s.ort.map orphan, near := { s.near with head := orphanHead s.near.head } }) h

theorem FarBounded.of_cleared (sent : List RequestPacket) : FarBounded false (State.clearedFar 0 sent) :=
  ⟨fun _ => rfl, nofun, fun _ => ⟨rfl, rfl, rfl⟩, Nat.zero_le _⟩

theorem buffer_ne_nil_of_responseAtHead {b : BufferedResponse} (h : responseAtHead b s) : s.far.buffer ≠ [] := by
  intro hn
  have hb := h.2
  rw [hn] at hb
  cases hb

theorem Effect.keeps_farBounded {c : Instr} (h : Effect s c u) (hs : FarBounded s.linkUp s.far) : FarBounded u.linkUp u.far := by
  have same : ∀ {t : State}, t.linkUp = s.linkUp → t.far = s.far → FarBounded t.linkUp t.far := fun hup hf => by rw [hup, hf]; exact hs
  have headed : ∀ {b : BufferedResponse} {t : State} (k : ResponseHead), responseAtHead b s → t.linkUp = s.linkUp → t.far = { s.far with head := k } →
      FarBounded t.linkUp t.far := fun k hb hup hf => by
    rw [hup, hf]
    exact hs.position (buffer_ne_nil_of_responseAtHead hb) k
  cases h with
  | consumed p c' =>
    rw [acceptUpdate_linkUp]
    exact FarBounded.offerFreedSlots (s := { bufferRequest p s with ring := { (bufferRequest p s).ring with
      c := c', overrun := (bufferRequest p s).ring.overrun && !(bufferRequest p s).ring.overrunSeen, overrunSeen := false } }) hs
  | responded p hup hroom =>
    have hsum := hs.granted hup
    refine ⟨fun hb => by simp at hb, fun _ => ?_, (fun hdown => nomatch hup.symm.trans hdown), hs.credits⟩
    simp only [changeEntry_far, bufferResponse_far, List.length_append, List.length_singleton]
    omega
  | farCredit n hup => exact ⟨hs.backed, hs.granted, (fun hdown => nomatch hup.symm.trans hdown), addCredits_le hs.credits⟩
  | consumerRejected p => exact same (by simp) (by simp)
  | malformed b =>
    refine same ?_ (by rw [malformedAtHead_far, sourceClash_far])
    unfold malformedAtHead
    dsimp only
    split <;> simp
  | duplicate b => exact same (by simp [duplicateAtHead]) (by simp [duplicateAtHead])
  | guardDropped b _ hv => exact same (by simp [hv.linkUp]) (by simp [hv.far])
  | requestResolved b m x refused next _ hv => exact same (by simp [hv.linkUp]) (by simp [hv.far])
  | readWaits b w => exact same (by simp) (by simp)
  | responseBypassed b hb => exact headed _ hb rfl rfl
  | stray b hb =>
    refine headed (.ready b.packet) hb ?_ ?_ <;> unfold strayAtHead <;> dsimp only <;> split <;> rfl
  | orphanRestored b e hb _ hv =>
    exact headed (.ready (restoreAttr e.attr b.packet)) hb hv.linkUp (by rw [orphanAtHead, setResponseHead_far, removeEntry_far, hv.far])
  | @responseResolved b e m x refused out v hb _ hv =>
    obtain ⟨k, hk⟩ := captureResponse_moves (resolve m x refused v).2 out (resolve m x refused v).1
    refine headed k hb ?_ ?_
    · rw [captureResponse_linkUp, resolve_linkUp, hv.eq_with]
      rfl
    · rw [hk, resolve_far, hv.eq_with]
      rfl
  | readExpired e => exact same (by simp) (by simp)
  | admitted w _ hw =>
    cases w with
    | request r next => exact same (by simp [admitRecord]) (by simp [admitRecord])
    | response r p =>
      have hhead := (response_mem_waiters r p s).mp (mem_of_firstWaiter hw)
      exact hs.position (hs.buffer_of_head (by rw [hhead]; exact fun h => nomatch h)) _
    | entry r e => exact hs
  | requestGranted f =>
    rw [grantRequest_linkUp, grantRequest_far]
    exact hs.sent .request _
  | writerGranted p =>
    rw [advanceWriter_linkUp, advanceWriter_far]
    exact hs.sent .writer _
  | responseGranted p _ _ hhead => exact hs.left (hs.buffer_of_head (by rw [hhead]; exact fun h => nomatch h))
  | heldRequestExpired => exact same (by simp) (by simp)
  | heldResponseExpired =>
    rw [abandonHeldResponse_linkUp]
    exact FarBounded.abandonHeldResponse (s := holdRanOut s) hs
  | freezeTaken _ =>
    rw [enterFrozen_linkUp]
    exact FarBounded.enterMode (s := { s with ctrl := { s.ctrl with freezeRequests := s.ctrl.freezeRequests - 1 } }) hs .frozen
  | modeEntered m =>
    rw [enterMode_linkUp]
    exact hs.enterMode m
  | linkCleared | boardCleared | powerCleared => exact .of_cleared _
  | broughtUp r hdown =>
    obtain ⟨hb, -, -⟩ := hs.cleared hdown
    refine ⟨hs.backed, fun _ => ?_, nofun, Nat.zero_le _⟩
    simp [bringUp, hb]
  | _ => exact hs

/-! ## The queue and the table -/

theorem releaseRequest_queue (h : s.ring.queue.length ≤ Config.captureQueueSize) :
    (releaseRequest s).ring.queue.length ≤ Config.captureQueueSize := by
  unfold releaseRequest
  split
  · split
    · exact placeRequest_queue _ _ s h
    · exact h
  · exact h

theorem releaseResponse_queue (h : s.ring.queue.length ≤ Config.captureQueueSize) :
    (releaseResponse s).ring.queue.length ≤ Config.captureQueueSize := by
  unfold releaseResponse
  split
  · split
    · exact placeResponse_queue _ _ s h
    · exact h
  · exact h

theorem offerFreedSlots_queue (h : s.ring.queue.length ≤ Config.captureQueueSize) :
    (offerFreedSlots s).ring.queue.length ≤ Config.captureQueueSize := by
  unfold offerFreedSlots
  split
  · exact releaseRequest_queue (releaseResponse_queue h)
  · exact releaseResponse_queue (releaseRequest_queue h)

theorem expire_queue (e : OrtEntry) (h : s.ring.queue.length ≤ Config.captureQueueSize) :
    (expire e s).ring.queue.length ≤ Config.captureQueueSize := by
  have place : ∀ (r : Option Record) (t : State), t.ring.queue.length ≤ Config.captureQueueSize →
      (placeExpiry e r t).ring.queue.length ≤ Config.captureQueueSize := by
    intro r t ht
    unfold placeExpiry
    dsimp only
    split
    · exact ht
    · split
      · split
        next hopen =>
          have := ((queueOpen_iff t).mp hopen).1
          simp only [removeEntry_ring, enqueue_ring, List.length_append, List.length_singleton]
          omega
        · exact ht
      · exact ht
      · simpa using ht
  unfold expire
  dsimp only
  split <;> exact place _ _ (by simpa using h)

theorem advanceWriter_queue (s : State) : (advanceWriter s).ring.queue.length ≤ s.ring.queue.length := by
  unfold advanceWriter
  split <;> (try split) <;> (try split) <;> simp

theorem Effect.keeps_queueBounded {c : Instr} (h : Effect s c u) (hs : s.ring.queue.length ≤ Config.captureQueueSize) :
    u.ring.queue.length ≤ Config.captureQueueSize := by
  have same : ∀ {t : State}, t.ring.queue = s.ring.queue → t.ring.queue.length ≤ Config.captureQueueSize := fun hq => by rwa [hq]
  cases h with
  | consumed p c' =>
    exact offerFreedSlots_queue (s := { bufferRequest p s with ring := { (bufferRequest p s).ring with
      c := c', overrun := (bufferRequest p s).ring.overrun && !(bufferRequest p s).ring.overrunSeen, overrunSeen := false } }) hs
  | malformed b => exact same (by rw [malformedAtHead_ring, sourceClash_ring])
  | duplicate b => exact same (by simp [duplicateAtHead])
  | guardDropped b _ hv => exact same (by simp [hv.ring])
  | requestResolved b m x refused next _ hv => exact captureRequest_queue _ _ _ (by simpa [hv.ring] using hs)
  | stray b => exact same (by rw [strayAtHead_ring])
  | orphanRestored b e _ _ hv => exact same (congrArg RingController.queue hv.ring)
  | @responseResolved b e m x refused out v _ _ hv =>
    have hring : v.ring = s.ring := by rw [hv.eq_with]; rfl
    exact captureResponse_queue _ _ _ (by simpa [hring] using hs)
  | readExpired e => exact expire_queue e hs
  | admitted w hroom =>
    have hlen : (admitRecord w s).ring.queue.length = s.ring.queue.length + 1 := by cases w <;> simp [admitRecord]
    rw [hlen]
    exact hroom
  | writerGranted p => exact (advanceWriter_queue (sendFar p .writer s)).trans hs
  | linkCleared | boardCleared | powerCleared => exact Nat.zero_le _
  | modeEntered m =>
    cases m with
    | active => exact hs
    | frozen => exact same (by simp [enterMode])
    | bypass => exact same (by simp [enterMode])
  | consumerRejected | readWaits | requestGranted | heldRequestExpired | heldResponseExpired | freezeTaken | orphanExpired =>
    exact same (by simp)
  | _ => exact hs

theorem expire_ort_le (e : OrtEntry) (s : State) : (expire e s).ort.length ≤ s.ort.length := by
  have place : ∀ (r : Option Record) (t : State), (placeExpiry e r t).ort.length ≤ t.ort.length := by
    intro r t
    have leave : ∀ v : State, v.ort = t.ort → (removeEntry (holdsKeyLive e.source e.tag) e v).ort.length ≤ t.ort.length := fun v hv => by
      rw [removeEntry_ort, hv]
      exact List.length_eraseP_le
    unfold placeExpiry
    dsimp only
    split
    · exact leave t rfl
    · split
      · split
        · exact leave _ rfl
        · simp [keepExpired]
      · exact leave _ rfl
      · exact leave _ (by simp)
  unfold expire
  dsimp only
  split <;> exact (place _ _).trans (by simp)

theorem Effect.keeps_ortBounded {c : Instr} (h : Effect s c u) (hs : s.ort.length ≤ Config.ortSize) : u.ort.length ≤ Config.ortSize := by
  have same : ∀ {t : State}, t.ort.length ≤ s.ort.length → t.ort.length ≤ Config.ortSize := fun h => h.trans hs
  cases h with
  | malformed b => exact same (by rw [malformedAtHead_ort, sourceClash_ort])
  | duplicate b => exact same (by simp [duplicateAtHead])
  | guardDropped b _ hv => exact same (by simp [hv.ort])
  | requestResolved b m x refused next _ hv => exact same (by simp [hv.ort])
  | entryCreated w b _ _ hroom =>
    change (s.ort ++ [newEntry b.packet w]).length ≤ _
    rw [List.length_append]
    exact hroom
  | stray b => exact same (by rw [strayAtHead_ort])
  | @orphanRestored b e v _ _ hv =>
    refine same ?_
    change (v.ort.eraseP _).length ≤ _
    rw [hv.ort]
    exact List.length_eraseP_le
  | @responseResolved b e m x refused out v _ _ hv =>
    refine same ?_
    rw [captureResponse_ort, resolve_ort, hv.eq_with]
    exact List.length_eraseP_le
  | orphanExpired e src tag => exact same (by rw [removeEntry_ort]; exact List.length_eraseP_le)
  | readExpired e => exact same (expire_ort_le e s)
  | admitted w =>
    cases w with
    | request r next => exact same (by simp [admitRecord])
    | response r p => exact hs
    | entry r e => exact same (by rw [admitRecord, removeEntry_ort]; exact List.length_eraseP_le)
  | requestGranted f => exact same (by rw [grantRequest_ort]; split <;> simp)
  | linkCleared | boardCleared | powerCleared => exact Nat.zero_le _
  | modeEntered m =>
    cases m with
    | active => exact hs
    | frozen => exact same (by simp [enterMode])
    | bypass => exact same (by simp [enterMode, enterBypass])
  | responded | ruleDisabled => exact same (by simp [disableRule])
  | consumed | consumerRejected | readWaits | heldRequestExpired | heldResponseExpired | freezeTaken | writerGranted => exact same (by simp)
  | _ => exact hs

/-! ## All bounds -/

theorem bounded_iff (s : State) : Bounded s ↔ NearBounded s.linkUp s.near ∧ FarBounded s.linkUp s.far ∧
    s.ring.queue.length ≤ Config.captureQueueSize ∧ s.ort.length ≤ Config.ortSize := by
  constructor
  · intro ⟨hnear, hfar, ⟨hupNear, hupFar, hdownNear, hdownFar⟩, hnearCredits, hfarCredits, hrefusals, hqueue, hort⟩
    exact ⟨⟨hnear, hupNear, hdownNear, hnearCredits, hrefusals⟩, ⟨hfar, hupFar, hdownFar, hfarCredits⟩, hqueue, hort⟩
  · intro ⟨⟨hnear, hupNear, hdownNear, hnearCredits, hrefusals⟩, ⟨hfar, hupFar, hdownFar, hfarCredits⟩, hqueue, hort⟩
    exact ⟨hnear, hfar, ⟨hupNear, hupFar, hdownNear, hdownFar⟩, hnearCredits, hfarCredits, hrefusals, hqueue, hort⟩

theorem Effect.keeps_bounded {c : Instr} (h : Effect s c u) (hs : Bounded s) : Bounded u := by
  obtain ⟨hnear, hfar, hqueue, hort⟩ := (bounded_iff s).mp hs
  exact (bounded_iff u).mpr ⟨h.keeps_nearBounded hnear, h.keeps_farBounded hfar, h.keeps_queueBounded hqueue, h.keeps_ortBounded hort⟩

theorem outsidePort_bounded : OutsidePort Bounded where
  port s _ h := (bounded_iff _).mpr ((bounded_iff s).mp h)
  pending s _ h := (bounded_iff _).mpr ((bounded_iff s).mp h)

end Sys2Proof.Machine

open Sys2Proof.Machine in
/-- Settles O55: each side's buffer, credits and head keep step under every command, and the queue and the table take an entry only with
room. -/
theorem boundsKept : Obligations.BoundsKept :=
  outsidePort_bounded.stepKeeps fun _ _ _ hs h => h.keeps_bounded hs

end

section
/-! PROOFS. O2: what every command keeps. -/

namespace Sys2Proof.Machine

set_option Elab.async false

variable {s u : State}

/-- No command but TIME_TICK and a hard reset changes the time, none but SET_TIMERS and a hard reset the timers, none but SET_FILL and a hard
reset the Fill Pattern; and none touches the queue of commands. -/
structure SettingsKept (c : Instr) (s u : State) : Prop where
  pending : u.pending = s.pending
  time    : u.time = s.time ∨ c = .timeTick ∨ c = .boardReset ∨ c = .powerOn
  timers  : u.timers = s.timers ∨ (∃ rt hl ms tail, c = .setTimers rt hl ms tail) ∨ c = .boardReset ∨ c = .powerOn
  fill    : u.fill = s.fill ∨ (∃ bytes tail, c = .setFill bytes tail) ∨ c = .boardReset ∨ c = .powerOn

theorem SettingsKept.same {c : Instr} (hp : u.pending = s.pending) (ht : u.time = s.time) (hm : u.timers = s.timers)
    (hf : u.fill = s.fill) : SettingsKept c s u := ⟨hp, .inl ht, .inl hm, .inl hf⟩

theorem Effect.settingsKept {c : Instr} (h : Effect s c u) : SettingsKept c s u := by
  cases h with
  | ticked => exact ⟨rfl, .inr (.inl rfl), .inl rfl, .inl rfl⟩
  | timersSet rt hl ms tail => exact ⟨rfl, .inl rfl, .inr (.inl ⟨rt, hl, ms, tail, rfl⟩), .inl rfl⟩
  | fillSet bytes tail => exact ⟨rfl, .inl rfl, .inl rfl, .inr (.inl ⟨bytes, tail, rfl⟩)⟩
  | boardCleared => exact ⟨rfl, .inr (.inr (.inl rfl)), .inr (.inr (.inl rfl)), .inr (.inr (.inl rfl))⟩
  | powerCleared => exact ⟨rfl, .inr (.inr (.inr rfl)), .inr (.inr (.inr rfl)), .inr (.inr (.inr rfl))⟩
  | guardDropped b _ hv | requestResolved b m x refused next _ hv =>
    exact .same (by simp [hv.pending]) (by simp [hv.time]) (by simp [hv.timers]) (by simp [hv.fill])
  | orphanRestored b e _ _ hv => exact .same (by simp [hv.pending]) (by simp [hv.time]) (by simp [hv.timers]) (by simp [hv.fill])
  | responseResolved b e m x refused out _ _ hv =>
    exact .same (by simp [hv.pending]) (by simp [hv.time]) (by simp [hv.timers]) (by simp [hv.fill])
  | consumed | consumerRejected | malformed | duplicate | readWaits | stray | readExpired | admitted | requestGranted | writerGranted
  | heldRequestExpired | heldResponseExpired | freezeTaken | modeEntered | orphanExpired =>
    exact .same (by simp) (by simp) (by simp) (by simp)
  | _ => exact .same rfl rfl rfl rfl

/-! ## The Fire Snapshot (R162) -/

theorem enterFired_snapshot (s : State) : (enterFired s).seqr.snapshot = s.seqr.snapshot := by
  unfold enterFired
  dsimp only
  split <;> rfl

theorem fire_snapshot (s : State) : (fire s).seqr.snapshot = s.seqr.snapshot := by
  have hmark : ∀ t : State, (startMark t).seqr.snapshot = t.seqr.snapshot := fun t => by
    unfold startMark
    split <;> rfl
  unfold fire
  dsimp only
  split
  · rw [enterFired_snapshot, hmark]
    rfl
  · exact hmark _

theorem offerToSequencer_snapshot (m : RuleSet) (s : State) : (offerToSequencer m s).1.seqr.snapshot = s.seqr.snapshot := by
  unfold offerToSequencer
  split
  · rfl
  · exact fire_snapshot s

theorem countPost_snapshot (s : State) : (countPost s).seqr.snapshot = s.seqr.snapshot := by
  unfold countPost
  split
  · split
    · exact enterFired_snapshot s
    · rfl
  · rfl

theorem takeSnapshot_keeps {r : Record} {x : Snapshot} (h : s.seqr.snapshot = some x) : (takeSnapshot r s).seqr.snapshot = some x := by
  unfold takeSnapshot
  rw [h]
  exact h

/-- A Fire Snapshot that is Valid stays what it is at a resolution. -/
theorem resolve_snapshot (m : RuleSet) (y : Transaction) (refused : Bool) {x : Snapshot} (h : s.seqr.snapshot = some x) :
    (resolve m y refused s).1.seqr.snapshot = some x := by
  have hoffer : ∀ t : State, t.seqr = s.seqr → (offerToSequencer m (signalRule m t)).1.seqr.snapshot = some x := fun t ht => by
    rw [offerToSequencer_snapshot, signalRule_seqr, ht, h]
  unfold resolve
  dsimp only
  split
  · split
    · unfold createRecord
      dsimp only
      split
      · exact takeSnapshot_keeps (hoffer _ rfl)
      · rw [countPost_snapshot]
        exact hoffer _ rfl
    · exact hoffer _ rfl
  · exact h

theorem expire_snapshot (e : OrtEntry) {x : Snapshot} (h : s.seqr.snapshot = some x) : (expire e s).seqr.snapshot = some x := by
  unfold expire
  dsimp only
  split <;> rw [placeExpiry_seqr] <;> exact resolve_snapshot _ _ _ h

theorem Effect.snapshot {c : Instr} (h : Effect s c u) {x : Snapshot} (hx : s.seqr.snapshot = some x) :
    u.seqr.snapshot = some x ∨ (∃ tail, c = .clearSnapshot tail) ∨ c = .powerOn := by
  have same : ∀ {t : State}, t.seqr = s.seqr → t.seqr.snapshot = some x ∨ (∃ tail, c = .clearSnapshot tail) ∨ c = .powerOn :=
    fun h => .inl (by rw [h, hx])
  cases h with
  | snapshotCleared tail => exact .inr (.inl ⟨tail, rfl⟩)
  | powerCleared => exact .inr (.inr rfl)
  | guardDropped b _ hv => exact same (by simp [hv.seqr])
  | requestResolved b m y refused next _ hv =>
    rw [captureRequest_seqr]
    exact .inl (resolve_snapshot m y refused (by rw [hv.seqr, hx]))
  | orphanRestored b e _ _ hv => exact same (by simp [hv.seqr])
  | responseResolved b e m y refused out _ _ hv =>
    rw [captureResponse_seqr]
    exact .inl (resolve_snapshot m y refused (by rw [hv.seqr, hx]))
  | readExpired e => exact .inl (expire_snapshot e hx)
  | consumed | consumerRejected | malformed | duplicate | readWaits | stray | admitted | requestGranted | writerGranted
  | heldRequestExpired | heldResponseExpired | freezeTaken | modeEntered | orphanExpired => exact same (by simp)
  | _ => exact .inl hx

end Sys2Proof.Machine

open Sys2Proof.Machine in
/-- Settles O2: the list of effects, one by one. -/
theorem whatEveryCommandKeeps : Obligations.WhatEveryCommandKeeps := by
  intro c s hard t ht
  obtain ⟨u, p, hu, rfl, -⟩ := exec_effect c s t ht
  obtain ⟨hpending, htime, htimers, hfill⟩ := hu.settingsKept
  exact ⟨hpending, htime.resolve_left, htimers.resolve_left, hfill.resolve_left, fun x hx => (hu.snapshot hx).resolve_left⟩

end

section
/-! PROOFS. O60: how the mode and the Guard Lock, the Source Table, the Rule Table and the ring configuration follow every command; what the
Guard Lock keeps. -/

namespace Sys2Proof.Machine

set_option Elab.async false

variable {s u : State} {c : Instr}

/-! ## Mode and Guard Lock (R25 to R30) -/

/-- What happens to the mode and the Guard Lock at a command. -/
inductive CtrlMoved (c : Instr) (s u : State) : Prop
  | kept : u.ctrl.mode = s.ctrl.mode → u.ctrl.guardLock = s.ctrl.guardLock → CtrlMoved c s u
  | entered (m : Mode) : (m = .bypass → s.ctrl.guardLock = false) → u.ctrl.mode = m → u.ctrl.guardLock = s.ctrl.guardLock → CtrlMoved c s u
  | locked : s.ctrl.mode ≠ .bypass → u.ctrl.mode = s.ctrl.mode → u.ctrl.guardLock = true → CtrlMoved c s u
  | reset : c = .boardReset ∨ c = .powerOn → u.ctrl.guardLock = false → CtrlMoved c s u

theorem modeRefusal_bypass (h : modeRefusal .bypass s = none) : s.ctrl.guardLock = false := by
  unfold modeRefusal at h
  split at h
  · cases h
  next hno => exact Bool.eq_false_iff.mpr fun hl => hno ⟨rfl, hl⟩

theorem Effect.ctrlMoved (h : Effect s c u) : CtrlMoved c s u := by
  cases h with
  | freezeTaken _ => exact .entered .frozen nofun (by simp) (by simp)
  | modeEntered m _ _ hm => exact .entered m (fun he => modeRefusal_bypass (he ▸ hm)) (by simp) (by simp)
  | locked _ hm => exact .locked hm rfl rfl
  | boardCleared => exact .reset (.inl rfl) rfl
  | powerCleared => exact .reset (.inr rfl) rfl
  | guardDropped b _ hv | requestResolved b m x refused next _ hv => exact .kept (by simp [hv.ctrl]) (by simp [hv.ctrl])
  | orphanRestored b e _ _ hv => exact .kept (by simp [hv.ctrl]) (by simp [hv.ctrl])
  | responseResolved b e m x refused out _ _ hv => exact .kept (by simp [hv.ctrl]) (by simp [hv.ctrl])
  | consumed | consumerRejected | malformed | duplicate | readWaits | stray | readExpired | admitted | requestGranted | writerGranted
  | heldRequestExpired | heldResponseExpired | orphanExpired => exact .kept (by simp) (by simp)
  | _ => exact .kept rfl rfl

theorem Effect.keeps_lockSound (h : Effect s c u) (hs : LockSound s) : LockSound u := by
  intro hlock
  cases h.ctrlMoved with
  | kept hm hl => rw [hm]; exact hs (hl ▸ hlock)
  | entered m hm hmode hl =>
    intro hb
    rw [hl, hm (hmode.symm.trans hb)] at hlock
    cases hlock
  | locked hm hmode _ => rw [hmode]; exact hm
  | reset _ hl => exact nomatch hl.symm.trans hlock

/-! ## The Source Table (R33, R40 to R43) -/

/-- The entries are the same but for the Damaged Counts, and an EMPTY entry counts none. -/
def DamagedMoved (t t' : Table SourceEntry 16) : Prop :=
  ∀ i, i < 16 → ∃ d, t'.get i SourceEntry.empty = { t.get i SourceEntry.empty with damaged := d } ∧
    ((t.get i SourceEntry.empty).valid = false → d = (t.get i SourceEntry.empty).damaged ∨ d = 0)

theorem DamagedMoved.refl (t : Table SourceEntry 16) : DamagedMoved t t := fun _ _ => ⟨_, rfl, fun _ => .inl rfl⟩

theorem countDamaged_moved (src : SourceId) (s : State) : DamagedMoved s.sources (countDamaged src s).sources := by
  intro i hi
  have hsources : (countDamaged src s).sources = s.sources.mapIdx fun _ e =>
      if e.valid && e.sourceId == src then { e with damaged := satInc e.damaged } else e := rfl
  rw [hsources, Table.get_mapIdx _ _ _ _ hi]
  split
  next h =>
    refine ⟨_, rfl, fun hv => ?_⟩
    simp only [Bool.and_eq_true] at h
    exact nomatch hv.symm.trans h.1
  · exact ⟨_, rfl, fun _ => .inl rfl⟩

theorem SignalledResponse.sources {src : SourceId} {v : State} (h : SignalledResponse src s v) : DamagedMoved s.sources v.sources := by
  cases h with
  | sound => exact .refl _
  | damaged => exact countDamaged_moved src s

theorem EntryLeft.sources {e : OrtEntry} {src : SourceId} {v : State} (h : EntryLeft e src s v) : DamagedMoved s.sources v.sources := by
  cases h with
  | passed hv =>
    rw [removeEntry_sources]
    exact hv.sources
  | refused hv =>
    rw [count_sources, removeEntry_sources]
    exact hv.sources

/-- What happens to the Source Table at a command. -/
inductive SourcesMoved (c : Instr) (s u : State) : Prop
  | damaged : DamagedMoved s.sources u.sources → SourcesMoved c s u
  | loaded (i : Nat) (e : SourceEntry) : i < 16 → s.ctrl.guardLock = false → e.valid = true → e.cls ≠ 0 →
      listedElsewhere i e.sourceId s = false → u.sources = s.sources.set i e → SourcesMoved c s u
  | cleared (i : Nat) : i < 16 → s.ctrl.guardLock = false → u.sources = s.sources.set i SourceEntry.empty → SourcesMoved c s u
  | reset : c = .boardReset ∨ c = .powerOn → u.sources = Table.fill 16 SourceEntry.empty → SourcesMoved c s u

theorem class_ne_zero {cls : Byte} (h0 : cls ≠ 0) (h7 : cls.toNat ≤ 7) : cls.setWidth 3 ≠ (0 : ClassNo) := by
  intro h
  have h' := congrArg BitVec.toNat h
  simp only [BitVec.toNat_setWidth, BitVec.ofNat_eq_ofNat, BitVec.toNat_ofNat] at h'
  exact h0 (BitVec.eq_of_toNat_eq (by simp; omega))

theorem Effect.sourcesMoved (h : Effect s c u) : SourcesMoved c s u := by
  have same : ∀ {t : State}, t.sources = s.sources → SourcesMoved c s t := fun h => .damaged (h ▸ .refl _)
  cases h with
  | damaged b => exact .damaged (countDamaged_moved b.packet.source s)
  | guardDropped b _ hv | requestResolved b m x refused next _ hv => exact same (by simp [hv.sources])
  | stray b =>
    refine .damaged ?_
    unfold strayAtHead
    dsimp only
    split
    · exact countDamaged_moved b.packet.source (raise .stray (count .strayResponses s))
    · exact .refl _
  | orphanRestored b e _ _ hv =>
    refine .damaged ?_
    rw [orphanAtHead_sources]
    exact hv.sources
  | responseResolved b e m x refused out _ _ hv =>
    refine .damaged ?_
    rw [captureResponse_sources, resolve_sources]
    exact hv.sources
  | sourceLoaded index src cls flags _ hi h0 h7 hlock hlisted => exact .loaded _ _ (by omega) hlock rfl (class_ne_zero h0 h7) hlisted rfl
  | sourceCleared index _ hi hlock => exact .cleared _ (by omega) hlock rfl
  | sourceRead index clear _ hi =>
    refine .damaged fun j hj => ?_
    rw [setSource_sources, Table.get_set _ _ _ _ _ (show index.toNat < 16 by omega)]
    split
    next hij => exact ⟨0, by rw [← hij, sourceAt], fun _ => .inr rfl⟩
    · exact ⟨_, rfl, fun _ => .inl rfl⟩
  | boardCleared => exact .reset (.inl rfl) rfl
  | powerCleared => exact .reset (.inr rfl) rfl
  | consumed | consumerRejected | malformed | duplicate | readWaits | readExpired | admitted | requestGranted | writerGranted
  | heldRequestExpired | heldResponseExpired | freezeTaken | modeEntered | orphanExpired => exact same (by simp)
  | _ => exact same rfl

theorem not_listedElsewhere {i : Nat} {src : SourceId} (h : listedElsewhere i src s = false) {j : Nat} (hj : j < 16) (hne : j ≠ i)
    (hv : (sourceAt s j).valid = true) : (sourceAt s j).sourceId ≠ src := by
  intro hsrc
  simp only [listedElsewhere, List.any_eq_false, List.mem_range] at h
  exact h j hj (by simp [hne, hv, hsrc])

theorem sourceAt_set {i : Nat} {e : SourceEntry} (hi : i < 16) (h : u.sources = s.sources.set i e) (j : Nat) :
    sourceAt u j = if i = j then e else sourceAt s j := by
  rw [sourceAt, h, Table.get_set _ _ _ _ _ hi, sourceAt]

theorem SourcesMoved.keeps (h : SourcesMoved c s u) (hs : SourcesSound s) : SourcesSound u := by
  cases h with
  | damaged hd =>
    have hsame : ∀ i, i < 16 → (sourceAt u i).valid = (sourceAt s i).valid ∧ (sourceAt u i).sourceId = (sourceAt s i).sourceId ∧
        (sourceAt u i).cls = (sourceAt s i).cls := fun i hi => by
      obtain ⟨d, hd, -⟩ := hd i hi
      rw [sourceAt, hd]
      exact ⟨rfl, rfl, rfl⟩
    refine ⟨fun i j hi hj hvi hvj hij => ?_, fun i hi hv => ?_, fun i hi hv => ?_⟩
    · obtain ⟨h₁, h₂, -⟩ := hsame i hi
      obtain ⟨h₁', h₂', -⟩ := hsame j hj
      exact hs.unique i j hi hj (h₁ ▸ hvi) (h₁' ▸ hvj) (by rw [← h₂, ← h₂', hij])
    · obtain ⟨h₁, -, h₃⟩ := hsame i hi
      rw [h₃]
      exact hs.classes i hi (h₁ ▸ hv)
    · have hv' := (hsame i hi).1 ▸ hv
      have hempty := hs.empty i hi hv'
      obtain ⟨d, hd, hzero⟩ := hd i hi
      have hd0 : d = 0 := (hzero hv').elim (fun h => h.trans (congrArg SourceEntry.damaged hempty)) id
      change (s.sources.get i SourceEntry.empty) = _ at hempty
      rw [sourceAt, hd, hd0, hempty]
      rfl
  | loaded i e hi _ hvalid hcls hlisted hu =>
    have hat := sourceAt_set hi hu
    refine ⟨fun j k hj hk hvj hvk hjk => ?_, fun j hj hv => ?_, fun j hj hv => ?_⟩
    · by_cases hj' : i = j <;> by_cases hk' : i = k
      · exact hj'.symm.trans hk'
      · rw [hat, hat, if_pos hj', if_neg hk'] at hjk
        rw [hat, if_neg hk'] at hvk
        exact absurd hjk.symm (not_listedElsewhere hlisted hk (Ne.symm hk') hvk)
      · rw [hat, hat, if_neg hj', if_pos hk'] at hjk
        rw [hat, if_neg hj'] at hvj
        exact absurd hjk (not_listedElsewhere hlisted hj (Ne.symm hj') hvj)
      · rw [hat, hat, if_neg hj', if_neg hk'] at hjk
        rw [hat, if_neg hj'] at hvj
        rw [hat, if_neg hk'] at hvk
        exact hs.unique j k hj hk hvj hvk hjk
    · rw [hat] at hv ⊢
      split
      · exact hcls
      next hne => exact hs.classes j hj (by rwa [if_neg hne] at hv)
    · rw [hat] at hv ⊢
      split
      next he => rw [if_pos he, hvalid] at hv; cases hv
      next hne => exact hs.empty j hj (by rwa [if_neg hne] at hv)
  | cleared i hi _ hu =>
    have hat := sourceAt_set hi hu
    have hne : ∀ j, (sourceAt u j).valid = true → i ≠ j := fun j hv he => by
      rw [hat, if_pos he] at hv
      cases hv
    refine ⟨fun j k hj hk hvj hvk hjk => ?_, fun j hj hv => ?_, fun j hj hv => ?_⟩
    · have hj' := hne j hvj
      have hk' := hne k hvk
      rw [hat, if_neg hj'] at hvj hjk
      rw [hat, if_neg hk'] at hvk hjk
      exact hs.unique j k hj hk hvj hvk hjk
    · have hj' := hne j hv
      rw [hat, if_neg hj'] at hv ⊢
      exact hs.classes j hj hv
    · rw [hat] at hv ⊢
      split
      · rfl
      next hne => exact hs.empty j hj (by rwa [if_neg hne] at hv)
  | reset _ hu =>
    have hat : ∀ i, i < 16 → sourceAt u i = SourceEntry.empty := fun i hi => by rw [sourceAt, hu, Table.get_fill _ _ _ hi]
    refine ⟨fun i j hi _ hv => ?_, fun i hi hv => ?_, fun i hi _ => hat i hi⟩ <;> rw [hat i hi] at hv <;> cases hv

/-! ## The Rule Table (R47, R69 to R73) -/

/-- What happens to the states and definitions of the rules at a command. -/
inductive RulesMoved (c : Instr) (s u : State) : Prop
  | kept : (∀ i, i < 32 → (ruleAt u i).state = (ruleAt s i).state ∧ (ruleAt u i).defn = (ruleAt s i).defn) → RulesMoved c s u
  | loaded (p : RuleParams) (d : RuleDef) (i : Nat) : ruleDefOf p = some d → i < 32 → (ruleAt s i).state ≠ .enabled →
      u.rules = s.rules.set i ⟨.disabled, d, 0⟩ → RulesMoved c s u
  | enabled (i : Nat) : i < 32 → (ruleAt s i).state = .disabled → u.rules = s.rules.set i { ruleAt s i with state := .enabled } →
      RulesMoved c s u
  | disabled (i : Nat) : i < 32 → (ruleAt s i).state = .enabled → guarded (ruleAt s i) s = false →
      u.rules = s.rules.set i { ruleAt s i with state := .disabled, useCount := 0 } → RulesMoved c s u
  | cleared (i : Nat) : i < 32 → (ruleAt s i).state = .disabled → u.rules = s.rules.set i Rule.empty → RulesMoved c s u
  | reset : c = .boardReset ∨ c = .powerOn → u.rules = Table.fill 32 Rule.empty → RulesMoved c s u

theorem RulesMoved.counts {f : Nat → Rule → Rule} (hf : ∀ i r, (f i r).state = r.state ∧ (f i r).defn = r.defn)
    (h : u.rules = s.rules.mapIdx f) : RulesMoved c s u := by
  refine .kept fun i hi => ?_
  rw [ruleAt, h, Table.get_mapIdx _ _ _ _ hi]
  exact hf i _

theorem RulesMoved.same (h : u.rules = s.rules) : RulesMoved c s u := .kept fun i _ => by rw [ruleAt, h]; exact ⟨rfl, rfl⟩

theorem RulesMoved.without {m : RuleSet} (h : u.rules = rulesWithout m s.rules) : RulesMoved c s u :=
  .counts (fun i r => by split <;> exact ⟨rfl, rfl⟩) h

theorem placeExpiry_rules (e : OrtEntry) (r : Option Record) (s : State) : (placeExpiry e r s).rules = rulesWithout e.pendingRules s.rules := by
  unfold placeExpiry
  dsimp only
  split
  · rfl
  · split
    · split
      · rfl
      · rfl
    · rfl
    · rw [removeEntry_rules, dropRecord_rules]

theorem expire_rules (e : OrtEntry) (s : State) : (expire e s).rules = rulesWithout e.pendingRules s.rules := by
  unfold expire
  dsimp only
  split
  · rw [placeExpiry_rules, resolve_rules]
  · rw [placeExpiry_rules, resolve_rules]
    rfl

theorem Effect.rulesMoved (h : Effect s c u) : RulesMoved c s u := by
  cases h with
  | guardDropped b _ hv | requestResolved b m x refused next _ hv => exact .same (by simp [hv.rules])
  | entryCreated w b => exact .counts (fun i r => by split <;> exact ⟨rfl, rfl⟩) rfl
  | orphanRestored b e _ _ hv => exact .without (m := e.pendingRules) (congrArg (rulesWithout e.pendingRules) hv.rules)
  | responseResolved b e m x refused out _ _ hv =>
    refine .without (m := e.pendingRules) ?_
    rw [captureResponse_rules, resolve_rules, hv.eq_with]
    rfl
  | orphanExpired e src tag => exact .without (m := e.pendingRules) rfl
  | readExpired e => exact .without (expire_rules e s)
  | admitted w =>
    cases w with
    | request r next => exact .same (by simp [admitRecord])
    | response r p => exact .same rfl
    | entry r e => exact .without (m := e.pendingRules) rfl
  | modeEntered m =>
    cases m with
    | active => exact .same rfl
    | frozen => exact .same (by simp [enterMode])
    | bypass => exact .counts (f := fun _ r => { r with useCount := 0 }) (fun _ _ => ⟨rfl, rfl⟩) (by simp [enterMode, enterBypass])
  | linkCleared => exact .counts (f := fun _ r => { r with useCount := 0 }) (fun _ _ => ⟨rfl, rfl⟩) rfl
  | ruleLoaded p d _ hd hi _ hstate => exact .loaded p d p.index.toNat hd (by omega) hstate rfl
  | ruleEnabled index _ hi hstate => exact .enabled index.toNat (by omega) hstate rfl
  | ruleDisabled index _ hi hstate hguard => exact .disabled index.toNat (by omega) hstate hguard rfl
  | ruleCleared index _ hi hstate => exact .cleared index.toNat (by omega) hstate rfl
  | boardCleared => exact .reset (.inl rfl) rfl
  | powerCleared => exact .reset (.inr rfl) rfl
  | consumed | consumerRejected | malformed | duplicate | readWaits | stray | requestGranted | writerGranted
  | heldRequestExpired | heldResponseExpired | freezeTaken => exact .same (by simp)
  | _ => exact .same rfl

theorem ruleAt_set {i : Nat} {r : Rule} (hi : i < 32) (h : u.rules = s.rules.set i r) (j : Nat) :
    ruleAt u j = if i = j then r else ruleAt s j := by
  rw [ruleAt, h, Table.get_set _ _ _ _ _ hi, ruleAt]

theorem compareLoadable {p : RuleParams} {x : Compare} (h : compareOf p = some (some x)) : CompareLoadable x := by
  unfold compareOf at h
  split at h
  · cases h
  next hpresent =>
    split at h
    · cases h
    · split at h
      next hc =>
        obtain rfl := Option.some.inj (Option.some.inj h)
        obtain ⟨hwidth, hoffset, hfits⟩ := hc
        exact ⟨hpresent, hwidth, hoffset, hfits⟩
      · cases h

/-- A definition that LOAD_RULE accepts is one that R69 allows. -/
theorem loadable_of_ruleDefOf {p : RuleParams} {d : RuleDef} (h : ruleDefOf p = some d) : Loadable d := by
  unfold ruleDefOf at h
  split at h
  next wm dep cmp _ _ hcmp =>
    split at h
    next hc =>
      obtain rfl := Option.some.inj h
      obtain ⟨hwindow, hk0, hk4, hclasses, hmin0, hmin64, hcount, hoffsets, -⟩ := hc
      refine ⟨hwindow, ?_, hclasses, ⟨?_, hmin64⟩, ?_, ?_, fun x hx => compareLoadable (hcmp.trans (congrArg some hx))⟩
      · by_contra hno
        simp only [not_or, Bool.not_eq_true] at hno
        refine hk0 (BitVec.eq_of_getLsbD_eq fun i hi => ?_)
        match i with
        | 0 => simpa using hno.1
        | 1 => simpa using hno.2
        | i + 2 =>
          rw [BitVec.getLsbD, Nat.testBit_lt_two_pow (hk4.trans_le (Nat.pow_le_pow_right (n := 2) (by decide) (show 2 ≤ i + 2 by omega)))]
          simp
      · have : p.minLength.toNat ≠ 0 := fun h0 => hmin0 (BitVec.eq_of_toNat_eq (by simpa using h0))
        change 1 ≤ p.minLength.toNat
        omega
      · change (p.terms.cells.take _).length ≤ 8
        rw [List.length_take]
        omega
      · intro t ht
        simpa using List.all_eq_true.mp hoffsets t ht
    · cases h
  · cases h

theorem RulesMoved.keeps (h : RulesMoved c s u) (hs : RulesSound s) : RulesSound u := by
  have set_sound : ∀ (i : Nat) (r : Rule), i < 32 → u.rules = s.rules.set i r → (r.state = .empty → r.defn = RuleDef.empty) →
      (r.state ≠ .empty → Loadable r.defn) → RulesSound u := by
    intro i r hi hu hempty hloaded
    have hat := ruleAt_set hi hu
    refine ⟨fun j hj hstate => ?_, fun j hj hstate => ?_⟩ <;> rw [hat] at hstate ⊢
    · split
      next he => exact hempty (by rwa [if_pos he] at hstate)
      next hne => exact hs.empty j hj (by rwa [if_neg hne] at hstate)
    · split
      next he => exact hloaded (by rwa [if_pos he] at hstate)
      next hne => exact hs.loaded j hj (by rwa [if_neg hne] at hstate)
  cases h with
  | kept hsame =>
    refine ⟨fun i hi hstate => ?_, fun i hi hstate => ?_⟩ <;> obtain ⟨h₁, h₂⟩ := hsame i hi <;> rw [h₂]
    · exact hs.empty i hi (h₁ ▸ hstate)
    · exact hs.loaded i hi (h₁ ▸ hstate)
  | loaded p d i hd hi _ hu => exact set_sound i _ hi hu nofun fun _ => loadable_of_ruleDefOf hd
  | enabled i hi hstate hu => exact set_sound i _ hi hu nofun fun _ => hs.loaded i hi (by rw [hstate]; decide)
  | disabled i hi hstate _ hu => exact set_sound i _ hi hu nofun fun _ => hs.loaded i hi (by rw [hstate]; decide)
  | cleared i hi _ hu => exact set_sound i _ hi hu (fun _ => rfl) fun h => absurd rfl h
  | reset _ hu =>
    have hat : ∀ i, i < 32 → ruleAt u i = Rule.empty := fun i hi => by rw [ruleAt, hu, Table.get_fill _ _ _ hi]
    exact ⟨fun i hi _ => by rw [hat i hi]; rfl, fun i hi hne => absurd (by rw [hat i hi]; rfl) hne⟩

/-! ## What the Guard Lock keeps -/

theorem Effect.keeps_lock (h : Effect s c u) (hlock : s.ctrl.guardLock = true) (hboard : c ≠ .boardReset) (hpower : c ≠ .powerOn) :
    u.ctrl.guardLock = true := by
  cases h.ctrlMoved with
  | kept _ hl => rw [hl, hlock]
  | entered _ _ _ hl => rw [hl, hlock]
  | locked _ _ hl => exact hl
  | reset hc => exact (hc.elim hboard hpower).elim

theorem Effect.keeps_sources (h : Effect s c u) (hlock : s.ctrl.guardLock = true) (hboard : c ≠ .boardReset) (hpower : c ≠ .powerOn)
    {i : Nat} (hi : i < 16) : sourceAt u i = { sourceAt s i with damaged := (sourceAt u i).damaged } := by
  cases h.sourcesMoved with
  | damaged hd =>
    obtain ⟨d, hd, -⟩ := hd i hi
    rw [sourceAt, hd]
    rfl
  | loaded _ _ _ hl => exact nomatch hl.symm.trans hlock
  | cleared _ _ hl => exact nomatch hl.symm.trans hlock
  | reset hc => exact (hc.elim hboard hpower).elim

theorem Effect.keeps_guarded (h : Effect s c u) (hlock : s.ctrl.guardLock = true) (hboard : c ≠ .boardReset) (hpower : c ≠ .powerOn)
    {i : Nat} (hi : i < 32) (hstate : (ruleAt s i).state = .enabled) (hblock : (ruleAt s i).defn.actions.block = true) :
    (ruleAt u i).state = .enabled ∧ (ruleAt u i).defn = (ruleAt s i).defn := by
  have other : ∀ (j : Nat) (r : Rule), j < 32 → u.rules = s.rules.set j r → j ≠ i →
      (ruleAt u i).state = .enabled ∧ (ruleAt u i).defn = (ruleAt s i).defn := fun j r hj hu hne => by
    rw [ruleAt_set hj hu, if_neg hne]
    exact ⟨hstate, rfl⟩
  cases h.rulesMoved with
  | kept hsame =>
    obtain ⟨h₁, h₂⟩ := hsame i hi
    exact ⟨h₁.trans hstate, h₂⟩
  | loaded p d j _ hj hne hu => exact other j _ hj hu fun he => hne (he ▸ hstate)
  | enabled j hj hd hu => exact other j _ hj hu fun he => by rw [he, hstate] at hd; cases hd
  | disabled j hj _ hg hu =>
    refine other j _ hj hu fun he => ?_
    rw [he, guarded, hlock, hstate, hblock] at hg
    cases hg
  | cleared j hj hd hu => exact other j _ hj hu fun he => by rw [he, hstate] at hd; cases hd
  | reset hc => exact (hc.elim hboard hpower).elim

end Sys2Proof.Machine

open Sys2Proof.Machine in
/-- Settles O60: the commands that clear the lock or change the tables are among those the lock refuses, but for the hard resets. -/
theorem lockedConfigurationStays : Obligations.LockedConfigurationStays := by
  intro c s hlock hboard hpower t ht
  obtain ⟨u, p, hu, rfl, -⟩ := exec_effect c s t ht
  exact ⟨hu.keeps_lock hlock hboard hpower, fun i hi => hu.keeps_sources hlock hboard hpower hi,
    fun i hi hstate hblock => hu.keeps_guarded hlock hboard hpower hi hstate hblock⟩

end

section
/-! PROOFS. O59: the events, the ring configuration and the serial link stay sound. -/

namespace Sys2Proof.Machine

set_option Elab.async false

variable {s u : State} {c : Instr}

/-! ## Events (R166) -/

/-- What `EventsSound` says of the Event Controller. -/
structure RecordsSound (e : EventController) : Prop where
  counts : ∀ src, (eventRecord e src).pending = true ↔ (eventRecord e src).count ≠ 0
  rules  : (eventRecord e .ruleSignal).pending = false → e.signalRules = 0

theorem eventsSound_iff (s : State) : EventsSound s ↔ RecordsSound s.events :=
  ⟨fun ⟨h₁, h₂⟩ => ⟨h₁, h₂⟩, fun ⟨h₁, h₂⟩ => ⟨h₁, h₂⟩⟩

theorem eventRecord_set {e : EventController} {t : Table EventRecord 11} {src : EventSource} {r : EventRecord}
    (ht : t = e.records.set (eventIndex src) r) (x : EventSource) :
    t.get (eventIndex x) ⟨false, 0⟩ = if src = x then r else eventRecord e x := by
  rw [ht, Table.get_set _ _ _ _ _ (eventIndex_lt src), eventRecord]
  exact if_congr ⟨eventIndex_inj, fun h => h ▸ rfl⟩ rfl rfl

theorem satInc_ne_zero {n : Nat} (hn : 0 < n) (x : BitVec n) : satInc x ≠ 0 := by
  unfold satInc
  split
  next h =>
    intro h0
    have := congrArg BitVec.toNat (h.symm.trans h0)
    simp only [BitVec.toNat_allOnes, BitVec.ofNat_eq_ofNat, BitVec.toNat_ofNat, Nat.zero_mod] at this
    have := Nat.one_lt_two_pow (n := n) (by omega)
    omega
  next h =>
    intro h0
    refine h (BitVec.eq_of_toNat_eq ?_)
    have h1 := congrArg BitVec.toNat h0
    have hlt := x.isLt
    have hpow := Nat.one_lt_two_pow (n := n) (by omega)
    simp only [BitVec.toNat_add, BitVec.ofNat_eq_ofNat, BitVec.toNat_ofNat, Nat.zero_mod, BitVec.toNat_allOnes] at h1 ⊢
    rw [Nat.mod_eq_of_lt hpow] at h1
    by_contra hne
    rw [Nat.mod_eq_of_lt (by omega)] at h1
    omega

/-- A raise keeps counts and pending flags in step. -/
theorem RecordsSound.raise {e : EventController} (h : RecordsSound e) (src : EventSource) (rules : RuleSet) :
    RecordsSound (raiseEvent src rules e) := by
  have hat : ∀ x, eventRecord (raiseEvent src rules e) x = if src = x then ⟨true, satInc (eventRecord e src).count⟩ else eventRecord e x :=
    fun x => eventRecord_set rfl x
  refine ⟨fun x => ?_, fun hp => ?_⟩
  · rw [hat]
    split
    · exact ⟨fun _ => satInc_ne_zero (by decide) _, fun _ => rfl⟩
    · exact h.counts x
  · rw [hat] at hp
    split at hp
    · cases hp
    next hne =>
      rw [raiseEvent, if_neg hne]
      exact h.rules hp

/-- A source taken is pending no more. -/
theorem RecordsSound.take {e : EventController} (h : RecordsSound e) (src : EventSource) : RecordsSound (takeSource src e) := by
  have hat : ∀ x, eventRecord (takeSource src e) x = if src = x then ⟨false, 0⟩ else eventRecord e x := fun x => eventRecord_set rfl x
  refine ⟨fun x => ?_, fun hp => ?_⟩
  · rw [hat]
    split
    · exact ⟨nofun, fun hne => absurd rfl hne⟩
    · exact h.counts x
  · rw [takeSource]
    dsimp only
    split
    · rfl
    next hne =>
      rw [hat, if_neg hne] at hp
      exact h.rules hp

theorem RecordsSound.cleared : RecordsSound State.clearedEvents := by
  have hat : ∀ src, eventRecord State.clearedEvents src = ⟨false, 0⟩ := fun src => Table.get_fill _ _ _ (eventIndex_lt src)
  refine ⟨fun src => ?_, fun _ => rfl⟩
  rw [hat]
  exact ⟨nofun, fun hne => absurd rfl hne⟩

/-- The events of the state are sound. -/
abbrev Signalled (s : State) : Prop := RecordsSound s.events

theorem Signalled.sourceClash (h : Signalled s) (p : RequestPacket) : Signalled (sourceClash p s) := by
  unfold Machine.sourceClash
  split
  · exact h.raise _ _
  · exact h

theorem SignalledHead.events {p : RequestPacket} {v : State} (hv : SignalledHead p s v) (h : Signalled s) : Signalled v := by
  cases hv with
  | clash => exact h.sourceClash p
  | intrusion => exact RecordsSound.raise (h.sourceClash p) _ _

theorem SignalledResponse.events {src : SourceId} {v : State} (hv : SignalledResponse src s v) (h : Signalled s) : Signalled v := by
  cases hv with
  | sound => exact h
  | damaged => exact h.raise _ _

theorem EntryLeft.events {e : OrtEntry} {src : SourceId} {v : State} (hv : EntryLeft e src s v) (h : Signalled s) : Signalled v := by
  cases hv with
  | passed hv => exact hv.events h
  | refused hv => exact hv.events h

theorem Signalled.dropRecord (h : Signalled s) : Signalled (dropRecord s) := by
  unfold Machine.dropRecord
  dsimp only
  split
  · exact h.raise _ _
  · exact RecordsSound.raise (h.raise _ _) _ _

theorem Signalled.resolve (h : Signalled s) (m : RuleSet) (x : Transaction) (refused : Bool) : Signalled (resolve m x refused s).1 := by
  have hsignal : ∀ t : State, Signalled t → Signalled (signalRule m t) := fun t ht => by
    unfold signalRule
    split
    · exact ht.raise _ _
    · exact ht
  have hfire : ∀ t : State, Signalled t → Signalled (fire t) := fun t ht => by
    have hraised : Signalled (startMark (raise .fire t)) := by
      rw [Signalled, startMark_events]
      exact ht.raise _ _
    unfold fire
    dsimp only
    split
    · rw [Signalled, enterFired_events]
      exact hraised
    · exact hraised
  have hoffer : ∀ t : State, Signalled t → Signalled (offerToSequencer m t).1 := fun t ht => by
    unfold offerToSequencer
    split
    · exact ht
    · exact hfire t ht
  unfold Machine.resolve
  dsimp only
  split
  · split
    · rw [Signalled, createRecord_events]
      exact hoffer _ (hsignal _ h)
    · exact hoffer _ (hsignal _ h)
  · exact h

theorem Signalled.captureRequest (h : Signalled s) (r : Option Record) (next : AfterCapture) : Signalled (captureRequest r next s) := by
  unfold Machine.captureRequest
  split
  · rw [Signalled, continueRequest_events]
    exact h
  · split
    · rw [Signalled, placeRequest_events]
      exact h
    · exact h
    · rw [Signalled, continueRequest_events]
      exact h.dropRecord

theorem Signalled.captureResponse (h : Signalled s) (r : Option Record) (p : ResponsePacket) : Signalled (captureResponse r p s) := by
  unfold Machine.captureResponse
  split
  · exact h
  · split
    · rw [Signalled, placeResponse_events]
      exact h
    · exact h
    · exact h.dropRecord

theorem Signalled.placeExpiry (h : Signalled s) (e : OrtEntry) (r : Option Record) : Signalled (placeExpiry e r s) := by
  unfold Machine.placeExpiry
  dsimp only
  split
  · exact h
  · split
    · split <;> exact h
    · exact h.raise _ _
    · exact h.dropRecord

theorem Signalled.expire (h : Signalled s) (e : OrtEntry) : Signalled (expire e s) := by
  unfold Machine.expire
  dsimp only
  split
  · exact (Signalled.resolve h _ _ _).placeExpiry _ _
  · exact (Signalled.resolve (h.raise _ _) _ _ _).placeExpiry _ _

theorem Signalled.abandonHeldRequest (h : Signalled s) : Signalled (abandonHeldRequest s) := by
  unfold Machine.abandonHeldRequest
  split
  · rw [Signalled, continueRequest_events]
    exact h.raise _ _
  · exact h

theorem Signalled.abandonHeldResponse (h : Signalled s) : Signalled (abandonHeldResponse s) := by
  unfold Machine.abandonHeldResponse
  split
  · exact h.raise _ _
  · exact h

theorem Signalled.abandonHeld (h : Signalled s) : Signalled (abandonHeld s) := h.abandonHeldRequest.abandonHeldResponse

theorem Effect.keeps_events (h : Effect s c u) (hs : Signalled s) : Signalled u := by
  cases h with
  | consumed p c' =>
    rw [Signalled, acceptUpdate_events]
    exact hs
  | consumerRejected p =>
    unfold rejectUpdate
    dsimp only
    split <;> exact hs.raise _ _
  | damaged b => exact hs.raise _ _
  | malformed b =>
    unfold malformedAtHead
    dsimp only
    split <;> exact RecordsSound.raise (hs.sourceClash b.packet) _ _
  | duplicate b => exact RecordsSound.raise (hs.sourceClash b.packet) _ _
  | guardDropped b _ hv => exact hv.events hs
  | requestResolved b m x refused next _ hv => exact ((hv.events hs).resolve m x refused).captureRequest _ _
  | readWaits b w => exact hs.sourceClash b.packet
  | stray b =>
    unfold strayAtHead
    dsimp only
    split
    · exact RecordsSound.raise (hs.raise _ _) _ _
    · exact hs.raise _ _
  | orphanRestored b e _ _ hv => exact hv.events hs
  | responseResolved b e m x refused out _ _ hv => exact ((hv.events hs).resolve m x refused).captureResponse _ _
  | readExpired e => exact hs.expire e
  | admitted w =>
    rw [Signalled, admitRecord_events]
    exact hs
  | requestGranted f =>
    rw [Signalled, grantRequest_events]
    exact hs
  | writerGranted p =>
    rw [Signalled, advanceWriter_events]
    exact hs
  | heldRequestExpired => exact Signalled.abandonHeldRequest (hs.raise _ _)
  | heldResponseExpired => exact Signalled.abandonHeldResponse (hs.raise _ _)
  | freezeTaken _ => exact Signalled.abandonHeld (s := { s with ctrl := { s.ctrl with freezeRequests := s.ctrl.freezeRequests - 1 } }) hs
  | modeEntered m =>
    cases m with
    | active => exact hs
    | frozen => exact hs.abandonHeld
    | bypass =>
      exact Signalled.abandonHeld
        (s := clearUses { s with ort := s.ort.map orphan, near := { s.near with head := orphanHead s.near.head } }) hs
  | eventTaken src => exact hs.take src
  | serviceEnded => exact ⟨hs.counts, hs.rules⟩
  | noServiceEnded => exact ⟨hs.counts, hs.rules⟩
  | eventsEnabled => exact ⟨hs.counts, hs.rules⟩
  | boardCleared | powerCleared => exact .cleared
  | _ => exact hs

/-! ## The ring configuration (R122 to R125) -/

/-- A configuration that SET_RING accepts is one that R123 allows. -/
theorem ringLoadable_of_ringConfigOf {p : RingParams} {cfg : RingConfig} (h : ringConfigOf p = some cfg) : RingLoadable cfg := by
  unfold ringConfigOf at h
  split at h
  · split at h
    next hc =>
      obtain rfl := Option.some.inj h
      obtain ⟨hbase, hslots, hfits, hp4, hc4, hdiffer, hproducer, hconsumer⟩ := hc
      have hword : ∀ {a : Addr}, wordInRing a p.base p.slots.toNat = false →
          a.toNat < p.base.toNat ∨ p.base.toNat + 128 * p.slots.toNat ≤ a.toNat := fun {a} ha => by
        rw [wordInRing, Bool.and_eq_false_iff, decide_eq_false_iff_not, decide_eq_false_iff_not] at ha
        exact ha.imp Nat.lt_of_not_le Nat.le_of_not_lt
      exact ⟨hbase, hslots, hfits, ⟨hp4, hc4⟩, hdiffer, hword hproducer, hword hconsumer⟩
    · cases h
  · cases h

theorem ConfigSound.of_same (hs : ConfigSound s) (hc : u.ring.config = s.ring.config) (hw : u.ring.writer = s.ring.writer) : ConfigSound u :=
  ⟨by rw [hc]; exact hs.loaded, by rw [hc, hw]; exact hs.completing⟩

/-- The writer turns to a record, or to IDLE; the configuration is as before. -/
theorem ConfigSound.of_writer (hs : ConfigSound s) (hc : u.ring.config = s.ring.config) (hw : ∀ p, u.ring.writer ≠ .producer p true) :
    ConfigSound u :=
  ⟨by rw [hc]; exact hs.loaded, fun p hp => absurd hp (hw p)⟩

theorem advanceWriter_config (hs : ConfigSound s) : ConfigSound (advanceWriter s) := by
  unfold advanceWriter
  split
  · exact hs
  · split
    · exact hs.of_writer rfl nofun
    · split
      · exact hs.of_writer rfl nofun
      · exact hs.of_writer rfl fun p h => nomatch h
  · exact hs.of_writer rfl fun p h => nomatch h
  · exact hs.of_writer rfl fun p h => nomatch h
  next p hw =>
    have hloadable := hs.loaded (by rw [hs.completing p hw]; decide)
    exact ⟨fun _ => ⟨hloadable.base, hloadable.slots, hloadable.fits, hloadable.aligned, hloadable.differ, hloadable.producer,
      hloadable.consumer⟩, fun p h => nomatch h⟩

theorem abortConfig_sound (hs : ConfigSound s) (h : (abortConfig s.ring.config).state ≠ .invalid) : RingLoadable (abortConfig s.ring.config) := by
  unfold abortConfig at h ⊢
  split at h
  · exact absurd rfl h
  next hne =>
    rw [if_neg hne]
    exact hs.loaded h

theorem Effect.keeps_configSound (h : Effect s c u) (hs : ConfigSound s) : ConfigSound u := by
  cases h with
  | guardDropped b _ hv | requestResolved b m x refused next _ hv => exact hs.of_same (by simp [hv.ring]) (by simp [hv.ring])
  | orphanRestored b e _ _ hv => exact hs.of_same (by simp [hv.ring]) (by simp [hv.ring])
  | responseResolved b e m x refused out _ _ hv => exact hs.of_same (by simp [hv.ring]) (by simp [hv.ring])
  | admitted w => exact hs.of_same (by cases w <;> simp [admitRecord]) (admitRecord_writer w s)
  | writerGranted p => exact advanceWriter_config (s := sendFar p .writer s) ⟨hs.loaded, hs.completing⟩
  | writerStarted q rest => exact hs.of_writer rfl nofun
  | linkCleared => exact ⟨fun h => abortConfig_sound (s := s) hs h, fun p h => nomatch h⟩
  | boardCleared | powerCleared => exact ⟨fun h => absurd rfl h, fun p h => nomatch h⟩
  | ringLoaded p cfg _ hcfg =>
    have hpending : cfg.state = .pending := by
      unfold ringConfigOf at hcfg
      split at hcfg
      · split at hcfg
        · rw [← Option.some.inj hcfg]
        · cases hcfg
      · cases hcfg
    exact ⟨fun _ => ringLoadable_of_ringConfigOf hcfg, fun _ _ => hpending⟩
  | consumed | consumerRejected | malformed | duplicate | readWaits | stray | readExpired | requestGranted | orphanExpired
  | heldRequestExpired | heldResponseExpired | freezeTaken => exact hs.of_same (by simp) (by simp)
  | modeEntered m =>
    cases m with
    | active => exact hs.of_same rfl rfl
    | frozen => exact hs.of_same (by simp [enterMode]) (by simp [enterMode])
    | bypass => exact hs.of_same (by simp [enterMode]) (by simp [enterMode])
  | _ => exact hs.of_same rfl rfl

/-! ## The serial link (R174, R175, R182) -/

/-- What `SerialSound` says of the pins and the frame. -/
structure LinkSound (l : SerialLink) : Prop where
  high      : l.selLow = false → l.frame = .absent
  driven    : l.frame = .absent ↔ l.sdo = none
  unread    : l.frame = .absent → l.read = []
  receiving : ∀ bits, l.frame = .receiving bits → reception bits = .incomplete ∧ l.sdo = some false ∧ l.read = List.replicate bits.length false

theorem serialSound_iff (s : State) : SerialSound s ↔ LinkSound s.port.link ∧ (inHardReset s = true → s.port.link.frame = .absent) :=
  ⟨fun ⟨h₁, h₂, h₃, h₄, h₅⟩ => ⟨⟨h₁, h₃, h₄, h₅⟩, h₂⟩, fun ⟨⟨h₁, h₃, h₄, h₅⟩, h₂⟩ => ⟨h₁, h₂, h₃, h₄, h₅⟩⟩

/-- Without a frame a pin may move. -/
theorem LinkSound.of_absent {l : SerialLink} (hf : l.frame = .absent) (hs : l.sdo = none) (hr : l.read = []) : LinkSound l :=
  ⟨fun _ => hf, ⟨fun _ => hs, fun _ => hf⟩, fun _ => hr, fun _ hb => nomatch hf.symm.trans hb⟩

/-- While an answer is driven SEL_n is low. -/
theorem LinkSound.of_sending {l : SerialLink} {out : List Bool} {fill : Byte} {b : Bool} (hf : l.frame = .sending out fill) (hs : l.sdo = some b)
    (hsel : l.selLow = true) : LinkSound l :=
  ⟨(fun h => nomatch hsel.symm.trans h), ⟨(fun h => nomatch hf.symm.trans h), fun h => nomatch hs.symm.trans h⟩,
    (fun h => nomatch hf.symm.trans h), fun _ hb => nomatch hf.symm.trans hb⟩

theorem LinkSound.of_receiving {l : SerialLink} {bits : List Bool} (hf : l.frame = .receiving bits) (hr : reception bits = .incomplete)
    (hs : l.sdo = some false) (hread : l.read = List.replicate bits.length false) (hsel : l.selLow = true) : LinkSound l :=
  ⟨(fun h => nomatch hsel.symm.trans h), ⟨(fun h => nomatch hf.symm.trans h), fun h => nomatch hs.symm.trans h⟩,
    (fun h => nomatch hf.symm.trans h), fun bits' hb => by
      obtain rfl : bits = bits' := FrameProgress.receiving.inj (hf.symm.trans hb)
      exact ⟨hr, hs, hread⟩⟩

theorem LinkSound.selLow {l : SerialLink} (h : LinkSound l) (hf : l.frame ≠ .absent) : l.selLow = true := by
  cases hs : l.selLow with
  | true => rfl
  | false => exact absurd (h.high hs) hf

theorem LinkSound.sdo_some {l : SerialLink} (h : LinkSound l) (hf : l.frame ≠ .absent) : ∃ b, l.sdo = some b :=
  Option.ne_none_iff_exists'.mp fun hnone => hf (h.driven.mpr hnone)

theorem LinkSound.sampleBit {l : SerialLink} (h : LinkSound l) (sdi : Bool) (hwhole : ∀ bits, l.frame = .receiving bits →
    reception (bits ++ [sdi]) ≠ .whole) : LinkSound (sampleBit sdi l) := by
  unfold Machine.sampleBit
  split
  next hf => exact .of_absent hf (h.driven.mp hf) (h.unread hf)
  next out fill hf =>
    obtain ⟨b, hb⟩ := h.sdo_some (by rw [hf]; exact nofun)
    exact .of_sending hf hb (h.selLow (by rw [hf]; exact nofun))
  next bits hf =>
    obtain ⟨-, hsdo, hread⟩ := h.receiving bits hf
    have hsel := h.selLow (by rw [hf]; exact nofun)
    cases hr : reception (bits ++ [sdi]) with
    | unknown => exact .of_sending (out := []) (fill := resultByte .badCommand) (by simp) hsdo hsel
    | whole => exact absurd hr (hwhole bits hf)
    | incomplete =>
      refine .of_receiving (bits := bits ++ [sdi]) (by simp) hr hsdo ?_ hsel
      change sampled l = _
      rw [sampled, hsdo, hread, List.length_append, List.length_singleton, List.replicate_succ']
      rfl

theorem LinkSound.shiftOut {l : SerialLink} (h : LinkSound l) : LinkSound (shiftOut l) := by
  unfold Machine.shiftOut
  split
  next hf => exact .of_absent hf (h.driven.mp hf) (h.unread hf)
  next bits hf =>
    obtain ⟨hr, -, hread⟩ := h.receiving bits hf
    exact .of_receiving hf hr rfl hread (h.selLow (by rw [hf]; exact nofun))
  next b out fill hf => exact .of_sending rfl rfl (h.selLow (by rw [hf]; exact nofun))
  next fill hf => exact .of_sending rfl rfl (h.selLow (by rw [hf]; exact nofun))

theorem LinkSound.portEdge {p : MgmtPort} (h : LinkSound p.link) (e : PortEdge) (hc : completesFrame p e = false) :
    LinkSound (portEdge p e).link := by
  cases e with
  | selFall =>
    unfold Machine.portEdge
    dsimp only
    split
    · exact h
    · exact .of_receiving (bits := []) rfl (by decide) rfl rfl rfl
  | selRise =>
    unfold Machine.portEdge
    dsimp only
    split
    · exact .of_absent rfl rfl rfl
    · exact h
  | sckRise sdi =>
    unfold Machine.portEdge
    dsimp only
    split
    · exact h
    next hlow =>
      refine h.sampleBit sdi fun bits hf hw => ?_
      simp [completesFrame, hf, hlow, hw] at hc
  | sckFall =>
    unfold Machine.portEdge
    dsimp only
    split
    · exact h.shiftOut
    · exact h

theorem LinkSound.portEdges {p : MgmtPort} (h : LinkSound p.link) (es : List PortEdge) : LinkSound (portEdges es p).link :=
  portEdges_keeps (P := fun q => LinkSound q.link) (fun _ e hq hc => hq.portEdge e hc) es p h

theorem answered_sound (bytes : List Byte) (fill : Byte) (bits : List Bool) (p : MgmtPort) (es : List PortEdge) :
    LinkSound (portEdges es (startSending bytes fill (received bits p))).link :=
  LinkSound.portEdges (.of_sending (out := bytesBits bytes) (fill := fill) rfl rfl rfl) es

/-- What an effect does to the port's link, and to whether the part is in power-on or board reset. -/
theorem Effect.link (h : Effect s c u) : (u.port.link = s.port.link ∧ inHardReset u = inHardReset s) ∨ c = .boardReset ∨ c = .powerOn ∨
    ∃ r, c = .linkUp r := by
  have same : ∀ {t : State}, t.port = s.port → t.pins = s.pins → (t.port.link = s.port.link ∧ inHardReset t = inHardReset s) ∨
      c = .boardReset ∨ c = .powerOn ∨ ∃ r, c = .linkUp r := fun hp hpins => .inl ⟨by rw [hp], by rw [inHardReset, hpins, inHardReset]⟩
  cases h with
  | boardPinned | boardCleared => exact .inr (.inl rfl)
  | powerCleared => exact .inr (.inr (.inl rfl))
  | released r | broughtUp r => exact .inr (.inr (.inr ⟨r, rfl⟩))
  | linkPinned | linkCleared => exact .inl ⟨rfl, rfl⟩
  | guardDropped b _ hv | requestResolved b m x refused next _ hv => exact same (by simp [hv.port]) (by simp [hv.pins])
  | orphanRestored b e _ _ hv => exact same (by simp [hv.port]) (by simp [hv.pins])
  | responseResolved b e m x refused out _ _ hv => exact same (by simp [hv.port]) (by simp [hv.pins])
  | writerGranted p =>
    refine .inl ⟨?_, by rw [inHardReset, advanceWriter_pins]; rfl⟩
    unfold advanceWriter
    split
    · rfl
    · split
      · rfl
      · split <;> rfl
    · rfl
    · rfl
    · rfl
  | consumed | consumerRejected | malformed | duplicate | readWaits | stray | readExpired | admitted | requestGranted
  | orphanExpired | heldRequestExpired | heldResponseExpired | freezeTaken | modeEntered => exact same (by simp) (by simp)
  | _ => exact .inl ⟨rfl, rfl⟩

theorem SerialSound.of_link (hs : SerialSound s) (hl : u.port.link = s.port.link) (hr : inHardReset u = inHardReset s) : SerialSound u := by
  rw [serialSound_iff] at hs ⊢
  rw [hl, hr]
  exact hs

theorem SerialSound.of_up (hl : LinkSound u.port.link) (hr : inHardReset u = false) : SerialSound u :=
  (serialSound_iff u).mpr ⟨hl, fun h => nomatch hr.symm.trans h⟩

theorem up_of_takesFrame {bits : List Bool} (h : takesFrame bits s = true) : inHardReset s = false := by
  rw [takesFrame, Bool.and_eq_true, Bool.not_eq_true'] at h
  exact h.1

/-- A frame that is run leaves the link with its answer. -/
theorem runFrame_serialSound {cmd : MgmtCommand} {params : List Byte} {tail : FrameTail} {body : State → Reply} (hs : SerialSound s)
    (hbody : inHardReset (body s).state = inHardReset s) : SerialSound (runFrame cmd params tail body s) := by
  unfold runFrame
  split
  next htakes =>
    have hup := up_of_takesFrame htakes
    split
    · exact .of_up (answered_sound _ _ _ _ _) (hbody.trans hup)
    · exact .of_up (answered_sound _ _ _ _ _) hup
  · exact hs

theorem hardReset_serialSound (pins : ResetInputs) (x : Option Snapshot) (k : ResetKind) (n : Byte) (s : State) :
    SerialSound (hardReset pins x k n s) :=
  (serialSound_iff _).mpr ⟨.of_absent rfl rfl rfl, fun _ => rfl⟩

theorem takeEdges_serialSound (es : List PortEdge) (hs : SerialSound s) : LinkSound (takeEdges es s).port.link ∧
    (inHardReset s = true → (takeEdges es s).port.link.frame = .absent) := by
  obtain ⟨hl, hheld⟩ := (serialSound_iff s).mp hs
  cases hr : inHardReset s with
  | true =>
    have hf := hheld hr
    obtain ⟨h₁, h₂, h₃⟩ := pinEdges_frame es s.port.link
    rw [takeEdges_port_of_reset s es hr]
    have habsent : (es.foldl pinEdge s.port.link).frame = .absent := h₁.trans hf
    exact ⟨.of_absent habsent (h₂.trans (hl.driven.mp hf)) (h₃.trans (hl.unread hf)), fun _ => habsent⟩
  | false =>
    rw [takeEdges_port_of_up s es hr]
    exact ⟨hl.portEdges es, nofun⟩

theorem inHardReset_of_release {pins released : ResetInputs} {t : State} (ht : t.pins = releasePins pins released)
    (h : inHardReset t = true) : (pins.power || pins.board) = true := by
  rw [inHardReset, ht, releasePins] at h
  revert h
  cases pins.power <;> cases pins.board <;> simp

theorem exec_frame_serialSound {cmd : MgmtCommand} {params : List Byte} {tail : FrameTail} (hf : frameOf c = some (cmd, params, tail))
    (hs : SerialSound s) : IfNext (exec c s) SerialSound := by
  rw [exec_eq_runFrame hf]
  refine ifNext_next (runFrame_serialSound hs ?_)
  obtain ⟨u, p, hu, hp, -⟩ := replyOf_effect hf s
  obtain ⟨-, hr⟩ | rfl | rfl | ⟨r, rfl⟩ := hu.link
  · rw [hp]
    exact hr
  all_goals cases hf

theorem exec_row_serialSound (hc : movesPort c = false) (hboard : c ≠ .boardReset) (hpower : c ≠ .powerOn) (hs : SerialSound s) :
    IfNext (exec c s) SerialSound := by
  intro t ht
  obtain ⟨u, p, hu, rfl, hp⟩ := exec_effect c s t ht
  rw [hp hc]
  obtain ⟨hl, hr⟩ | rfl | rfl | ⟨r, rfl⟩ := hu.link
  · exact hs.of_link hl hr
  · exact absurd rfl hboard
  · exact absurd rfl hpower
  · cases hc

theorem execLinkReset_serialSound (hs : SerialSound s) : IfNext (execLinkReset s) SerialSound := by
  unfold execLinkReset
  exact ifNext_ite (fun _ => ifNext_next (hs.of_link rfl rfl)) fun _ => ifNext_ite (fun _ => ifNext_next hs) fun _ =>
    ifNext_next (hs.of_link rfl rfl)

theorem execBoardReset_serialSound (hs : SerialSound s) : IfNext (execBoardReset s) SerialSound := by
  obtain ⟨hl, hheld⟩ := (serialSound_iff s).mp hs
  unfold execBoardReset
  refine ifNext_ite (fun hpower => ifNext_next ?_) fun _ => ifNext_ite (fun _ => ifNext_next hs) fun _ =>
    ifNext_next (hardReset_serialSound _ _ _ _ s)
  exact (serialSound_iff _).mpr ⟨hl, fun _ => hheld (by rw [inHardReset, hpower, Bool.true_or])⟩

theorem execLinkUp_serialSound (r : Release) (hs : SerialSound s) : IfNext (execLinkUp r s) SerialSound := by
  obtain ⟨hl, hheld⟩ := takeEdges_serialSound r.before hs
  have sound : ∀ t : State, t.port = (takeEdges r.before s).port → t.pins = releasePins (takeEdges r.before s).pins r.inputs → SerialSound t :=
    fun t hp hpins => (serialSound_iff t).mpr ⟨by rw [hp]; exact hl, fun hr => by
      rw [hp]
      refine hheld ?_
      have hpre := inHardReset_of_release hpins hr
      rwa [takeEdges_pins] at hpre⟩
  unfold execLinkUp
  exact ifNext_ite (fun _ => ifNext_next (sound _ rfl rfl)) fun _ => ifNext_next (sound _ rfl rfl)

theorem execFrameAbort_serialSound (bits : List Bool) (after : List PortEdge) (hs : SerialSound s) :
    IfNext (execFrameAbort bits after s) SerialSound := by
  unfold execFrameAbort
  refine ifNext_ite (fun hbits => ifNext_ite (fun htakes => ifNext_next ?_) fun _ => ifNext_next hs) fun _ _ ht => nomatch ht
  have hreceived : LinkSound (received bits s.port).link := .of_receiving (bits := bits) rfl hbits rfl rfl rfl
  exact .of_up (hreceived.portEdges _) (up_of_takesFrame (s := s) htakes)

theorem execBadCommand_serialSound (code : Byte) (after : List PortEdge) (hs : SerialSound s) :
    IfNext (execBadCommand code after s) SerialSound := by
  unfold execBadCommand
  refine ifNext_ite (fun _ _ ht => nomatch ht) fun _ => ifNext_ite (fun htakes => ifNext_next ?_) fun _ => ifNext_next hs
  exact .of_up (answered_sound _ _ _ _ _) (up_of_takesFrame (s := s) htakes)

theorem exec_serialSound (c : Instr) (hs : SerialSound s) : IfNext (exec c s) SerialSound := by
  cases c with
  | linkReset => exact execLinkReset_serialSound hs
  | boardReset => exact execBoardReset_serialSound hs
  | powerOn => exact ifNext_next (hardReset_serialSound _ _ _ _ s)
  | linkUp r => exact execLinkUp_serialSound r hs
  | frameAbort bits after => exact execFrameAbort_serialSound bits after hs
  | badCommand code after => exact execBadCommand_serialSound code after hs
  | requestArrival | responseArrival | requestAtHead | ortEntryCreate | refusalQueueAdmit | responseAtHead | captureQueueAdmit
  | farPortGrant | captureWriterStart | nearPortResponseGrant | farRequestCredit | nearResponseCredit | readTimerExpiry | holdExpiry
  | stageWindowExpiry | markPulseEnd | timeTick | freezeRequest => exact exec_row_serialSound rfl nofun nofun hs
  | _ => exact exec_frame_serialSound rfl hs

/-! ## Every step -/

theorem serialSound_kept : StepKeeps SerialSound := by
  intro s hs
  exact ifNext_step hs fun c rest => exec_serialSound c (hs.of_link rfl rfl)

end Sys2Proof.Machine

open Sys2Proof.Machine in
/-- Settles O59: each table, and the mode, by the list of effects; the serial link by the list of commands. -/
theorem tablesAndModesKept : Obligations.TablesAndModesKept := by
  refine ⟨OutsidePort.stepKeeps ⟨fun _ _ h => h, fun _ _ h => h⟩ fun _ _ _ hs h => h.keeps_lockSound hs,
    OutsidePort.stepKeeps ⟨fun _ _ h => h, fun _ _ h => h⟩ fun _ _ _ hs h => h.keeps_holdSound hs,
    OutsidePort.stepKeeps ⟨fun _ _ h => h, fun _ _ h => h⟩ fun _ _ _ hs h => h.keeps_overrunSound hs, ?_,
    OutsidePort.stepKeeps ⟨fun _ _ h => ⟨h.unique, h.classes, h.empty⟩, fun _ _ h => ⟨h.unique, h.classes, h.empty⟩⟩
      fun _ _ _ hs h => h.sourcesMoved.keeps hs,
    OutsidePort.stepKeeps ⟨fun _ _ h => ⟨h.empty, h.loaded⟩, fun _ _ h => ⟨h.empty, h.loaded⟩⟩ fun _ _ _ hs h => h.rulesMoved.keeps hs,
    OutsidePort.stepKeeps ⟨fun _ _ h => ⟨h.loaded, h.completing⟩, fun _ _ h => ⟨h.loaded, h.completing⟩⟩
      fun _ _ _ hs h => h.keeps_configSound hs,
    serialSound_kept⟩
  exact OutsidePort.stepKeeps ⟨fun _ _ h => ⟨h.counts, h.rules⟩, fun _ _ h => ⟨h.counts, h.rules⟩⟩
    fun _ _ _ hs h => (eventsSound_iff _).mpr (h.keeps_events ((eventsSound_iff _).mp hs))

end

section
/-! PROOFS. O1, O3 to O6: the queue and the resets. -/

namespace Sys2Proof.Machine

set_option Elab.async false

/-! ## State.reset -/

theorem sourceAt_reset {i : Nat} (hi : i < 16) : sourceAt State.reset i = SourceEntry.empty := Table.get_fill _ _ i hi

theorem ruleAt_reset {i : Nat} (hi : i < 32) : ruleAt State.reset i = Rule.empty := Table.get_fill _ _ i hi

theorem bounded_reset : Bounded State.reset :=
  (bounded_iff _).mpr ⟨⟨fun _ => rfl, fun _ => rfl, nofun, Nat.zero_le _, Nat.zero_le _⟩, ⟨fun _ => rfl, fun _ => rfl, nofun, Nat.zero_le _⟩,
    Nat.zero_le _, Nat.zero_le _⟩

theorem keysUnique_reset : KeysUnique State.reset := (keysUnique_iff _).mpr ⟨fun _ => rfl, List.nodup_nil, fun _ _ h => nomatch h⟩

theorem useCountsExact_reset : UseCountsExact State.reset :=
  ⟨keysUnique_reset, fun _ he => (List.not_mem_nil he).elim, fun _ _ _ => ⟨rfl, fun _ he => (List.not_mem_nil he).elim⟩, fun i hi => by
    rw [ruleAt_reset hi]; rfl⟩

theorem ringSound_reset : RingSound State.reset := ⟨keysUnique_reset, Nat.zero_le _, Nat.zero_le _, nofun⟩

theorem holdSound_reset : HoldSound State.reset := .of_none rfl

theorem overrunSound_reset : OverrunSound State.reset := nofun

theorem sourcesSound_reset : SourcesSound State.reset := by
  have hempty : ∀ i, i < 16 → (sourceAt State.reset i).valid ≠ true := fun i hi => by rw [sourceAt_reset hi]; exact nofun
  exact ⟨fun i _ hi _ hv => absurd hv (hempty i hi), fun i hi hv => absurd hv (hempty i hi), fun i hi _ => sourceAt_reset hi⟩

theorem rulesSound_reset : RulesSound State.reset :=
  ⟨fun i hi _ => by rw [ruleAt_reset hi]; rfl, fun i hi hne => absurd (by rw [ruleAt_reset hi]; rfl) hne⟩

theorem configSound_reset : ConfigSound State.reset := ⟨fun h => absurd rfl h, nofun⟩

theorem serialSound_reset : SerialSound State.reset := (serialSound_iff _).mpr ⟨.of_absent rfl rfl rfl, nofun⟩

theorem queueOrdered_reset : QueueOrdered State.reset :=
  (queueOrdered_iff _).mpr ⟨ringSound_reset, holdSound_reset, overrunSound_reset,
    ⟨.inl rfl, nofun, .nil, nofun, nofun, ⟨.nil, .nil⟩, List.not_mem_nil⟩, fun h => absurd rfl h⟩

end Sys2Proof.Machine

open Sys2Proof Sys2Proof.Machine

/-- Settles O1: `step` by its definition. -/
theorem stepTakesFront : Obligations.StepTakesFront := by
  refine ⟨fun _ _ => rfl, fun s hs => ?_⟩
  unfold step
  rw [hs]

/-- Settles O3: the fields of State.reset, and each invariant of it. -/
theorem resetSound : Obligations.ResetSound := by
  refine ⟨rfl, rfl, fun i hi => sourceAt_reset hi, fun i hi => ruleAt_reset hi, rfl, rfl, fun i hi => Table.get_fill _ _ i hi,
    fun i hi => Table.get_fill _ _ i hi, fun k => by cases k <;> rfl, rfl, rfl, rfl, rfl, rfl, rfl, rfl, rfl, rfl, rfl, rfl, rfl, rfl, rfl,
    rfl, rfl, rfl, rfl, rfl, rfl, fun k hk => Table.get_fill _ _ k hk, rfl, rfl, rfl, rfl, fun src => Table.get_fill _ _ _ (eventIndex_lt src),
    rfl, rfl, rfl, rfl, rfl, rfl, rfl, rfl, rfl, rfl, rfl, ?_⟩
  exact ⟨bounded_reset, useCountsExact_reset, ringSound_reset, nofun, holdSound_reset, overrunSound_reset,
    (eventsSound_iff _).mpr .cleared, sourcesSound_reset, rulesSound_reset, configSound_reset, serialSound_reset, queueOrdered_reset⟩

/-! ## The resets -/

namespace Sys2Proof.Machine

theorem inHardReset_of_power {s : State} (h : s.pins.power = true) : inHardReset s = true := by rw [inHardReset, h]; rfl

/-- LINK_UP with every input released, the part being held in reset: the edges move pins, and the link comes up. -/
theorem execLinkUp_all (up : List PortEdge) {s : State} (hpower : s.pins.power = true) (hdown : s.linkUp = false) :
    execLinkUp ⟨up, ⟨true, true, true⟩⟩ s = .next (bringUp
      { s with pins := ⟨false, false, false⟩, port := { s.port with link := up.foldl pinEdge s.port.link } }) := by
  unfold execLinkUp
  rw [takeEdges_frame, takeEdges_port_of_reset s up (inHardReset_of_power hpower)]
  simp [releasePins, anyAsserted, hdown]

/-- The records that a link reset discards, by the names of the obligation. -/
theorem discardedRecords_eq (s : State) : discardedRecords s =
    s.ring.queue.length + waitingRecords s + (holdOf .request s).isSome.toNat + (holdOf .response s).isSome.toNat := by
  have hrequest : headIsHeld s.near.head = (holdOf .request s).isSome := by
    cases h : s.near.head <;> simp [headIsHeld, holdOf, h]
  have hresponse : responseIsHeld s.far.head = (holdOf .response s).isSome := by
    cases h : s.far.head <;> simp [responseIsHeld, holdOf, h]
  rw [discardedRecords, hrequest, hresponse]

theorem abortConfig_eq (g : RingConfig) : abortConfig g = { g with state := if g.state = .pending then .invalid else g.state } := by
  unfold abortConfig
  split <;> rfl

theorem abortSlot_eq (x : LongSlot) : abortSlot x = if x = .pending then .doneAborted else x := by
  cases x <;> rfl

theorem satInc_byte (x : Byte) : satInc x = if x = 255 then 255 else x + 1 := by
  have hall : BitVec.allOnes 8 = 255#8 := rfl
  rw [satInc, hall]
  exact if_ctx_congr Iff.rfl id fun _ => rfl

theorem anyAsserted_eq_false (p : ResetInputs) : anyAsserted p = false ↔ p = ⟨false, false, false⟩ := by
  obtain ⟨a, b, c⟩ := p
  simp [anyAsserted, and_assoc]

theorem addCredits_eq (held n : Nat) : addCredits held n = if held + n ≤ 16 then held + n else held := rfl

end Sys2Proof.Machine

/-- Settles O4: POWER_ON and BOARD_RESET by their branches; LINK_UP by the edges it takes in reset. -/
theorem hardResetsRestore : Obligations.HardResetsRestore := by
  refine ⟨fun up s => ⟨_, rfl, rfl, rfl, rfl, rfl, rfl, rfl, rfl, ?_⟩, fun s hpower hboard => ?_, fun s hpower => ?_, fun s hpower hboard => ?_,
    fun s hpins => ?_, fun s hpins => ?_⟩
  · exact execLinkUp_all up rfl rfl
  · change execBoardReset s = _
    rw [execBoardReset, if_neg (by simp [hpower]), if_neg (by simp [hboard]), satInc_byte]
    rfl
  · change execBoardReset s = _
    rw [execBoardReset, if_pos hpower]
  · change execBoardReset s = _
    rw [execBoardReset, if_neg (by simp [hpower]), if_pos hboard]
  · change execLinkReset s = _
    rw [execLinkReset, if_pos (by simpa [inHardReset] using hpins)]
  · change execLinkReset s = _
    rw [execLinkReset, if_neg (by simp [inHardReset, hpins]), if_pos (by rw [hpins])]

/-- Settles O5: LINK_RESET by its last branch, and the names of what `clearLink` discards. -/
theorem linkResetClears : Obligations.LinkResetClears := by
  intro s hpins
  change execLinkReset s = _
  rw [execLinkReset, if_neg (by simp [inHardReset, hpins]), if_neg (by simp [hpins])]
  have hdiscarded := discardedRecords_eq { s with pins := ⟨false, false, true⟩ }
  have hlink : ({ s.pins with link := true } : ResetInputs) = ⟨false, false, true⟩ := by rw [hpins]
  rw [hlink]
  simp only [clearLink, hdiscarded, abortConfig_eq, abortSlot_eq]
  rfl

/-- Settles O6: LINK_UP and the two credit commands by their branches. -/
theorem linkComesUpAndCountsCredits : Obligations.LinkComesUpAndCountsCredits := by
  refine ⟨?_, fun n s _ _ => ⟨fun hup => ⟨?_, ?_⟩, fun hdown => ⟨?_, ?_⟩⟩⟩
  · intro before released s left port
    change execLinkUp ⟨before, released⟩ s = _
    unfold execLinkUp
    rw [takeEdges_frame]
    have hcond : (anyAsserted left || s.linkUp) = false ↔ left = ⟨false, false, false⟩ ∧ s.linkUp = false := by
      rw [Bool.or_eq_false_iff, anyAsserted_eq_false]
    by_cases hall : left = ⟨false, false, false⟩ ∧ s.linkUp = false
    · have hno : ¬ (anyAsserted left || s.linkUp) = true := Bool.eq_false_iff.mp (hcond.mpr hall)
      rw [if_pos hall]
      exact if_neg hno
    · have hyes : (anyAsserted left || s.linkUp) = true := by
        rw [← Bool.not_eq_false]
        exact fun h => hall (hcond.mp h)
      rw [if_neg hall]
      exact if_pos hyes
  · change execFarRequestCredit n s = _
    rw [execFarRequestCredit, if_pos hup]
    rfl
  · change execNearResponseCredit n s = _
    rw [execNearResponseCredit, if_pos hup]
    rfl
  · change execFarRequestCredit n s = _
    rw [execFarRequestCredit, if_neg (by simp [hdown])]
  · change execNearResponseCredit n s = _
    rw [execNearResponseCredit, if_neg (by simp [hdown])]

end

section
/-! PROOFS. O7 to O9: packets and rule parameters read back, and the codes of the formats. -/

namespace Sys2Proof.Machine

set_option Elab.async false

/-! ## Bytes of a packet -/

theorem getLsbD_ofLe16 (b0 b1 : Byte) (i : Nat) :
    (ofLe16 b0 b1).getLsbD i = if i < 8 then b0.getLsbD i else b1.getLsbD (i - 8) := by
  refine (BitVec.getLsbD_append (x := b1) (y := b0)).trans ?_
  rfl

theorem getLsbD_ofLe32 (b0 b1 b2 b3 : Byte) (i : Nat) :
    (ofLe32 b0 b1 b2 b3).getLsbD i =
      if i < 8 then b0.getLsbD i else if i - 8 < 8 then b1.getLsbD (i - 8)
      else if i - 8 - 8 < 8 then b2.getLsbD (i - 8 - 8) else b3.getLsbD (i - 8 - 8 - 8) := by
  refine (BitVec.getLsbD_append (x := b3 ++ b2 ++ b1) (y := b0)).trans ?_
  rw [BitVec.getLsbD_append, BitVec.getLsbD_append]

theorem ofLe16_extract (x : BitVec 16) : ofLe16 (x.extractLsb' 0 8) (x.extractLsb' 8 8) = x := by
  refine BitVec.eq_of_getLsbD_eq fun i hi => ?_
  rw [getLsbD_ofLe16]
  split
  next h => simp [h]
  next h => 
    have hlow : i - 8 < 8 := by omega
    have hsum : 8 + (i - 8) = i := by omega
    simp [hlow, hsum]

theorem ofLe32_extract (x : BitVec 32) :
    ofLe32 (x.extractLsb' 0 8) (x.extractLsb' 8 8) (x.extractLsb' 16 8) (x.extractLsb' 24 8) = x := by
  refine BitVec.eq_of_getLsbD_eq fun i hi => ?_
  rw [getLsbD_ofLe32]
  simp only [BitVec.getLsbD_extractLsb']
  split
  next h0 => rw [decide_eq_true h0, Nat.zero_add, Bool.true_and]
  split
  next h1 => rw [decide_eq_true h1, show 8 + (i - 8) = i by omega, Bool.true_and]
  split
  next h2 => rw [decide_eq_true h2, show 16 + (i - 8 - 8) = i by omega, Bool.true_and]
  next h2 => rw [decide_eq_true (by omega), show 24 + (i - 8 - 8 - 8) = i by omega, Bool.true_and]

theorem getLsbD_attrSourceByte (a : Attr) (src : SourceId) (i : Nat) :
    (attrSourceByte a src).getLsbD i =
      if i < 6 then src.getLsbD i else if i - 6 < 1 then (BitVec.ofBool a.g).getLsbD (i - 6) else (BitVec.ofBool a.u).getLsbD (i - 6 - 1) := by
  refine (BitVec.getLsbD_append (x := BitVec.ofBool a.u ++ BitVec.ofBool a.g) (y := src)).trans ?_
  rw [BitVec.getLsbD_append]

theorem getLsbD_tagByte (spare : BitVec 3) (tag : Tag) (i : Nat) :
    (tagByte spare tag).getLsbD i = if i < 5 then tag.getLsbD i else spare.getLsbD (i - 5) := by
  refine (BitVec.getLsbD_append (x := spare) (y := tag)).trans ?_
  rfl

@[simp] theorem attrSourceByte_u (a : Attr) (src : SourceId) : (attrSourceByte a src)[7] = a.u := by
  rw [← BitVec.getLsbD_eq_getElem, getLsbD_attrSourceByte]
  simp

@[simp] theorem attrSourceByte_g (a : Attr) (src : SourceId) : (attrSourceByte a src)[6] = a.g := by
  rw [← BitVec.getLsbD_eq_getElem, getLsbD_attrSourceByte]
  simp

@[simp] theorem attrSourceByte_source (a : Attr) (src : SourceId) : (attrSourceByte a src).extractLsb' 0 6 = src := by
  refine BitVec.eq_of_getLsbD_eq fun i hi => ?_
  rw [BitVec.getLsbD_extractLsb', getLsbD_attrSourceByte]
  simp [hi]

@[simp] theorem tagByte_spare (spare : BitVec 3) (tag : Tag) : (tagByte spare tag).extractLsb' 5 3 = spare := by
  refine BitVec.eq_of_getLsbD_eq fun i hi => ?_
  rw [BitVec.getLsbD_extractLsb', getLsbD_tagByte]
  simp [hi]

@[simp] theorem tagByte_tag (spare : BitVec 3) (tag : Tag) : (tagByte spare tag).extractLsb' 0 5 = tag := by
  refine BitVec.eq_of_getLsbD_eq fun i hi => ?_
  rw [BitVec.getLsbD_extractLsb', getLsbD_tagByte]
  simp [hi]

theorem reqOfBytes_reqBytes (p : RequestPacket) : reqOfBytes (reqBytes p) = some p := by
  have hbytes : reqBytes p = p.kind :: attrSourceByte p.attr p.source :: tagByte p.spare p.tag :: p.length ::
      p.address.extractLsb' 0 8 :: p.address.extractLsb' 8 8 :: p.address.extractLsb' 16 8 :: p.address.extractLsb' 24 8 ::
      (p.data ++ [p.check.extractLsb' 0 8, p.check.extractLsb' 8 8]) := rfl
  rw [hbytes]
  simp [reqOfBytes, ofLe32_extract, ofLe16_extract]

theorem rspOfBytes_rspBytes (p : ResponsePacket) : rspOfBytes (rspBytes p) = some p := by
  have hbytes : rspBytes p = p.status :: attrSourceByte p.attr p.source :: tagByte p.spare p.tag :: p.length ::
      (p.data ++ [p.check.extractLsb' 0 8, p.check.extractLsb' 8 8]) := rfl
  rw [hbytes]
  simp [rspOfBytes, ofLe16_extract]

theorem byteOfBits_byteBits (b : Byte) : byteOfBits (byteBits b) = b := by
  revert b
  decide

/-! ## Rule parameters -/

theorem windowModeByte_of {b : Byte} {m : WindowMode} (h : windowModeOf b = some m) : windowModeByte m = b := by
  unfold windowModeOf at h
  split at h
  next hb => rw [← Option.some.inj h, hb]; rfl
  · split at h
    next hb => rw [← Option.some.inj h, hb]; rfl
    · cases h

theorem depthByte_of {b : Byte} {m : Depth} (h : depthOf b = some m) : depthByte m = b := by
  unfold depthOf at h
  split at h
  next hb => rw [← Option.some.inj h, hb]; rfl
  · split at h
    next hb => rw [← Option.some.inj h, hb]; rfl
    · cases h

theorem conditionByte_of {b : Byte} {m : Condition} (h : conditionOf b = some m) : conditionByte m = b := by
  unfold conditionOf at h
  split_ifs at h
  all_goals
    cases h
    symm
    assumption

theorem getLsbD_bitsByte (b0 b1 b2 : Bool) (i : Nat) :
    (bitsByte b0 b1 b2).getLsbD i = if i = 0 then b0 else if i = 1 then b1 else if i = 2 then b2 else false := by
  by_cases hi : i < 8
  · revert i
    cases b0 <;> cases b1 <;> cases b2 <;> decide
  · rw [BitVec.getLsbD_of_ge _ _ (by omega), if_neg (by omega), if_neg (by omega), if_neg (by omega)]

/-- A byte below 8 is its three low bits. -/
theorem bitsByte_of_lt {b : Byte} (h : b.toNat < 8) : bitsByte (b.getLsbD 0) (b.getLsbD 1) (b.getLsbD 2) = b := by
  refine BitVec.eq_of_getLsbD_eq fun i _ => ?_
  rw [getLsbD_bitsByte]
  match i with
  | 0 | 1 | 2 => rfl
  | i + 3 => 
    have hpow : b.toNat < 2 ^ (i + 3) := h.trans_le (Nat.pow_le_pow_right (n := 2) (by decide) (show 3 ≤ i + 3 by omega))
    exact (Nat.testBit_lt_two_pow hpow).symm

theorem bitsByte_of_lt_four {b : Byte} (h : b.toNat < 4) : bitsByte (b.getLsbD 0) (b.getLsbD 1) false = b := by
  have h2 : b.getLsbD 2 = false := by rw [BitVec.getLsbD, Nat.testBit_lt_two_pow h]
  rw [← h2]
  exact bitsByte_of_lt (by omega)

/-- The terms beyond the count made 0. -/
theorem flatMap_terms_cleared (l : List PatternTerm) (n : Nat) :
    (l.mapIdx fun i t => if i < n then t else ⟨0, 0, 0⟩).flatMap termBytes =
      (l.take n).flatMap termBytes ++ List.replicate (3 * (l.length - n)) 0x00 := by
  induction l generalizing n with
  | nil => simp
  | cons t l ih =>
    rw [List.mapIdx_cons, List.flatMap_cons]
    cases n with
    | zero =>
      have hrest := ih 0
      simp only [Nat.not_lt_zero, if_false, List.take_zero, List.flatMap_nil, List.nil_append, Nat.sub_zero, List.length_cons] at hrest ⊢
      rw [hrest, show 3 * (l.length + 1) = 3 + 3 * l.length by omega, ← List.replicate_append_replicate]
      rfl
    | succ n =>
      have hrest := ih n
      simp only [Nat.add_lt_add_iff_right, List.take_succ_cons, List.flatMap_cons, List.length_cons, Nat.add_sub_add_right, List.append_assoc]
        at hrest ⊢
      rw [hrest]
      rfl

/-- The Compare bytes of the parameters, 40 to 51. -/
def compareParamBytes (p : RuleParams) : List Byte :=
  [p.compare, p.compareOffset, p.compareWidth] ++ be32 p.fieldMask ++ be32 p.operand ++ [p.condition]

theorem compareBytes_of {p : RuleParams} {cmp : Option Compare} (h : compareOf p = some cmp) :
    compareBytes cmp = compareParamBytes (ignoredCleared p) := by
  unfold compareOf at h
  split at h
  next hp =>
    cases h
    have hclear : ignoredCleared p =
        { p with
          terms := p.terms.mapIdx fun i t => if i < p.termCount.toNat then t else ⟨0, 0, 0⟩
          compareOffset := 0, compareWidth := 0, fieldMask := 0, operand := 0, condition := 0 } := if_pos hp
    have hzero : be32 0#32 = [0x00, 0x00, 0x00, 0x00] := by decide
    simp [hclear, compareParamBytes, compareBytes, hzero, hp, List.replicate]
  next hp =>
    have hkeep : ignoredCleared p =
        { p with terms := p.terms.mapIdx fun i t => if i < p.termCount.toNat then t else ⟨0, 0, 0⟩ } := if_neg hp
    split at h
    · cases h
    next cond hcond =>
      split at h
      · cases h
        rw [hkeep, compareParamBytes, ← conditionByte_of hcond]
        rfl
      · cases h

/-- Bytes 1 to 39 stand as they came, but for the terms beyond the count, which are 0. -/
theorem ruleParamBytes_ignoredCleared (p : RuleParams) :
    (ruleParamBytes (ignoredCleared p)).drop 1 =
      be32 p.base ++ be32 p.limit ++ [p.windowMode, p.kinds, p.classes, p.minLength, p.actions, p.depth, p.termCount] ++
      ((p.terms.cells.take p.termCount.toNat).flatMap termBytes ++ List.replicate (3 * (8 - p.termCount.toNat)) 0x00) ++
      compareParamBytes (ignoredCleared p) := by
  have hterms : (ignoredCleared p).terms.cells.flatMap termBytes =
      (p.terms.cells.take p.termCount.toNat).flatMap termBytes ++ List.replicate (3 * (8 - p.termCount.toNat)) 0x00 := by
    have hcells : (ignoredCleared p).terms.cells =
        p.terms.cells.mapIdx fun i t => if i < p.termCount.toNat then t else ⟨0, 0, 0⟩ := by
      unfold ignoredCleared
      split <;> rfl
    rw [hcells, flatMap_terms_cleared, p.terms.size_eq]
  have hrest : (ruleParamBytes (ignoredCleared p)).drop 1 =
      be32 p.base ++ be32 p.limit ++ [p.windowMode, p.kinds, p.classes, p.minLength, p.actions, p.depth, p.termCount] ++
      (ignoredCleared p).terms.cells.flatMap termBytes ++ compareParamBytes (ignoredCleared p) := by
    unfold ruleParamBytes ignoredCleared compareParamBytes
    split <;> simp
  rw [hrest, hterms]

theorem ruleDefBytes_of {p : RuleParams} {d : RuleDef} (h : ruleDefOf p = some d) :
    ruleDefBytes d = (ruleParamBytes (ignoredCleared p)).drop 1 := by
  rw [ruleParamBytes_ignoredCleared]
  unfold ruleDefOf at h
  split at h
  case h_2 => cases h
  next wm dep cmp hwm hdep hcmp =>
    split at h
    case isFalse => cases h
    next hok =>
      obtain ⟨-, -, hkinds, -, -, -, hcount, -, hactions⟩ := hok
      cases h
      have hlen : (p.terms.cells.take p.termCount.toNat).length = p.termCount.toNat := by
        rw [List.length_take, p.terms.size_eq]
        omega
      simp only [ruleDefBytes, windowModeByte_of hwm, depthByte_of hdep, bitsByte_of_lt_four hkinds, bitsByte_of_lt hactions, hlen,
        compareBytes_of hcmp, BitVec.ofNat_toNat, BitVec.setWidth_eq, Nat.mul_sub, List.append_assoc]

end Sys2Proof.Machine

open Sys2Proof Sys2Proof.Machine

/-- Settles O7. -/
theorem packetsReadBack : Obligations.PacketsReadBack := ⟨reqOfBytes_reqBytes, rspOfBytes_rspBytes⟩

/-- Settles O8. -/
theorem loadedRuleReadsBack : Obligations.LoadedRuleReadsBack := fun _ _ => ruleDefBytes_of

/-- Settles O9: the tables by evaluation. -/
theorem codesOfTheFormats : Obligations.CodesOfTheFormats := by
  refine ⟨rfl, rfl, fun cmd => by cases cmd <;> decide, rfl, rfl, rfl, rfl, rfl, fun _ _ _ _ => rfl, rfl, rfl, rfl, rfl, rfl, rfl, rfl, rfl,
    fun b0 b1 b2 i _ => getLsbD_bitsByte b0 b1 b2 i, fun b => ⟨byteOfBits_byteBits b, fun i hi => ?_⟩⟩
  match i with
  | 0 | 1 | 2 | 3 | 4 | 5 | 6 | 7 => rfl
  | i + 8 => omega
end

section
/-! PROOFS. O13, O14, O16, O17, O18: match sets, the Source Table, counters, events and the classification of arrivals. -/

namespace Sys2Proof.Machine

set_option Elab.async false

/-! ## Members of the sets -/

theorem addressTests_iff (r : Rule) (kind : Kind) (cls : ClassNo) (a l : Nat) : addressTests r kind cls a l = true ↔
    r.state = .enabled ∧ (if kind = .rd then r.defn.kindRd else r.defn.kindWr) = true ∧ r.defn.classes.getLsbD cls.toNat = true ∧
    windowTest r.defn a l = true ∧ r.defn.minLength.toNat ≤ l := by
  have hkind : kindTest r.defn kind = if kind = .rd then r.defn.kindRd else r.defn.kindWr := by cases kind <;> rfl
  simp only [addressTests, hkind, Bool.and_eq_true, beq_iff_eq, decide_eq_true_eq, and_assoc]

theorem dataTests_iff (d : RuleDef) (data : List Byte) : dataTests d data = true ↔
    patternHolds d.pattern data = true ∧ ∀ c, d.compare = some c → compareHolds c data = true := by
  unfold dataTests
  cases d.compare <;> simp

theorem hasDataTests_iff (d : RuleDef) : hasDataTests d = true ↔ d.pattern ≠ [] ∨ d.compare ≠ none := by
  simp [hasDataTests, Option.isSome_iff_ne_none]

theorem hasTestedData_iff (b : BufferedResponse) (e : OrtEntry) : hasTestedData b e = true ↔
    b.damaged = false ∧ b.packet.status = statusOk ∧ b.packet.length = e.length := by
  simp [hasTestedData, and_assoc]

theorem hasRule_writeMatchSet (cls : ClassNo) (p : RequestPacket) (s : State) {i : Nat} (hi : i < 32) :
    hasRule (writeMatchSet cls p s) i =
      (addressTests (ruleAt s i) .wr cls p.address.toNat p.length.toNat && dataTests (ruleAt s i).defn p.data) := by
  rw [writeMatchSet, hasRule_and, candidates, dataMatches, hasRule_rulesWith _ _ _ hi, hasRule_rulesWith _ _ _ hi]

theorem hasRule_responseMatchSet_iff (b : BufferedResponse) (e : OrtEntry) (s : State) {i : Nat} (hi : i < 32) :
    hasRule (responseMatchSet b e s) i = true ↔ hasRule e.noData i = true ∨
      (b.damaged = false ∧ b.packet.status = statusOk ∧ b.packet.length = e.length ∧ hasRule e.pendingRules i = true ∧
        dataTests (ruleAt s i).defn b.packet.data = true) := by
  rw [responseMatchSet, hasRule_or, Bool.or_eq_true]
  refine or_congr Iff.rfl ?_
  by_cases hdata : hasTestedData b e = true
  · obtain ⟨hgood, hok, hlen⟩ := (hasTestedData_iff b e).mp hdata
    rw [if_pos hdata, hasRule_and, dataMatches, hasRule_rulesWith _ _ _ hi, Bool.and_eq_true]
    exact ⟨fun h => ⟨hgood, hok, hlen, h⟩, fun h => h.2.2.2⟩
  · rw [if_neg hdata]
    constructor
    · intro h
      exact absurd ((hasRule_zero i).symm.trans h) Bool.false_ne_true
    · rintro ⟨hgood, hok, hlen, -⟩
      exact absurd ((hasTestedData_iff b e).mpr ⟨hgood, hok, hlen⟩) hdata

/-! ## The Source Table -/

theorem sourceAt_mem (s : State) {i : Nat} (hi : i < 16) : sourceAt s i ∈ s.sources.cells := by
  have hlen : i < s.sources.cells.length := by rw [s.sources.size_eq]; exact hi
  rw [sourceAt, Table.get, List.getD_eq_getElem _ _ hlen]
  exact List.getElem_mem hlen

theorem exists_sourceAt_of_mem {s : State} {e : SourceEntry} (h : e ∈ s.sources.cells) : ∃ i, i < 16 ∧ sourceAt s i = e := by
  obtain ⟨i, hi, rfl⟩ := List.getElem_of_mem h
  exact ⟨i, s.sources.size_eq ▸ hi, List.getD_eq_getElem _ _ hi⟩

theorem lookupSource_eq_some {s : State} (hs : SourcesSound s) {i : Nat} (hi : i < 16) (hv : (sourceAt s i).valid = true) :
    lookupSource (sourceAt s i).sourceId s = some (sourceAt s i) := by
  cases hf : lookupSource (sourceAt s i).sourceId s with
  | none =>
    have := List.find?_eq_none.mp hf _ (sourceAt_mem s hi)
    simp [hv] at this
  | some e =>
    obtain ⟨hev, hid⟩ : e.valid = true ∧ e.sourceId = (sourceAt s i).sourceId := by
      simpa using List.find?_some hf
    obtain ⟨j, hj, rfl⟩ := exists_sourceAt_of_mem (List.mem_of_find?_eq_some hf)
    rw [hs.unique j i hj hi hev hv hid]

theorem lookupSource_eq_none {s : State} {src : SourceId}
    (h : ∀ i, i < 16 → (sourceAt s i).valid = true → (sourceAt s i).sourceId ≠ src) : lookupSource src s = none := by
  refine List.find?_eq_none.mpr fun e he => ?_
  obtain ⟨i, hi, rfl⟩ := exists_sourceAt_of_mem he
  simpa using h i hi

/-! ## Saturating counts -/

theorem satInc_toNat {n : Nat} (x : BitVec n) : (satInc x).toNat = min (2 ^ n - 1) (x.toNat + 1) := by
  have hx := x.isLt
  unfold satInc
  split
  next h => simp [h]
  next h =>
    have hne : x.toNat ≠ 2 ^ n - 1 := fun hall => h (BitVec.eq_of_toNat_eq (by rw [hall, BitVec.toNat_allOnes]))
    rw [BitVec.toNat_add, show (1 : BitVec n).toNat = 1 % 2 ^ n from BitVec.toNat_ofNat .., Nat.add_mod_mod, Nat.mod_eq_of_lt (by omega)]
    omega

theorem satAdd_toNat {n : Nat} (x : BitVec n) (k : Nat) : (satAdd x k).toNat = min (2 ^ n - 1) (x.toNat + k) := by
  unfold satAdd
  split
  next h =>
    rw [BitVec.toNat_add, BitVec.toNat_ofNat, Nat.add_mod_mod, Nat.mod_eq_of_lt h]
    omega
  next h =>
    rw [BitVec.toNat_allOnes]
    omega

theorem globalValue_countGlobal (k j : GlobalCounter) (g : Globals) :
    globalValue j (countGlobal k g) = if j = k then satInc (globalValue j g) else globalValue j g := by
  cases k <;> cases j <;> rfl

theorem countBin_blocked (len : Nat) (k : RuleCounters) : (countBin len k).blocked = k.blocked := by
  unfold countBin
  split_ifs <;> rfl

/-- The largest Length of each bin is twice that of the one before. -/
theorem bins_countBin {len : Nat} (hmax : len ≤ 64) (k : RuleCounters) {i : Nat} (hi : i < 5) {top : Nat}
    {value : BitVec 32} (h : (bins k)[i]? = some (top, value)) :
    (bins (countBin len k))[i]? = some (top, if len ≤ top ∧ (i = 0 ∨ top < 2 * len) then satInc value else value) := by
  unfold countBin
  match i with
  | 0 | 1 | 2 | 3 | 4 =>
    cases h
    simp only [true_or, and_true, one_ne_zero, OfNat.ofNat_ne_zero, false_or]
    split_ifs <;> grind [bins]
  | i + 5 => omega

/-! ## Events -/

theorem eventRecord_raiseEvent (src : EventSource) (m : RuleSet) (e : EventController) (x : EventSource) :
    eventRecord (raiseEvent src m e) x = if src = x then ⟨true, satInc (eventRecord e src).count⟩ else eventRecord e x :=
  eventRecord_set rfl x

theorem threshold_le_of_inService (e : EventController) {level : Nat} (hl : e.inService.getLsbD level = true) : threshold e ≤ level := by
  have hlevel := BitVec.lt_of_getLsbD hl
  unfold threshold
  interval_cases level <;> split_ifs <;> grind

/-- A level is below the threshold exactly when it is below every level in service. -/
theorem lt_threshold_iff (e : EventController) {n : Nat} (hn : n ≤ 3) :
    n < threshold e ↔ ∀ level, e.inService.getLsbD level = true → n < level := by
  constructor
  · exact fun h level hl => h.trans_le (threshold_le_of_inService e hl)
  · intro h
    unfold threshold
    split_ifs with h0 h1 h2 h3
    · exact h 0 h0
    · exact h 1 h1
    · exact h 2 h2
    · exact h 3 h3
    · omega

theorem eventLevel_le (src : EventSource) : eventLevel src ≤ 3 := by cases src <;> decide

theorem evtAsserted_iff (e : EventController) : evtAsserted e = true ↔ e.globalEnable = true ∧ ∃ src,
    (eventRecord e src).pending = true ∧ e.levelEnable.getLsbD (eventLevel src) = true ∧
      ∀ level, e.inService.getLsbD level = true → eventLevel src < level := by
  rw [evtAsserted, Bool.and_eq_true, List.any_eq_true]
  refine and_congr Iff.rfl (exists_congr fun src => ?_)
  rw [← lt_threshold_iff e (eventLevel_le src)]
  simp [mem_allSources, and_assoc]

/-! ## Arrivals -/

theorem isMalformed_iff (p : RequestPacket) : isMalformed p = true ↔
    (p.kind ≠ 0x01 ∧ p.kind ≠ 0x02) ∨ (p.length.toNat = 0 ∨ 64 < p.length.toNat) ∨
      64 < p.address.toNat % 64 + p.length.toNat ∨ (p.kind = 0x02 ∧ p.data.length ≠ p.length.toNat) ∨
      (p.kind = 0x01 ∧ p.data ≠ []) := by
  simp only [isMalformed, kindRd, kindWr, Bool.or_eq_true, Bool.and_eq_true, bne_iff_ne, beq_iff_eq, decide_eq_true_eq,
    Bool.not_eq_true', List.isEmpty_eq_false_iff, ne_eq, or_assoc]

theorem reqGoodCheck_iff (p : RequestPacket) : reqGoodCheck p = true ↔ p.check = crc16 (reqHeader p ++ p.data) := beq_iff_eq

theorem rspGoodCheck_iff (p : ResponsePacket) : rspGoodCheck p = true ↔ p.check = crc16 (rspHeader p ++ p.data) := beq_iff_eq

theorem classify_eq_damaged_iff (p : RequestPacket) : classify p = .damaged ↔ p.check ≠ crc16 (reqHeader p ++ p.data) := by
  rw [ne_eq, ← reqGoodCheck_iff]
  cases hgood : reqGoodCheck p <;> cases hmal : isMalformed p <;> simp [classify, hgood, hmal]

theorem classify_eq_malformed_iff (p : RequestPacket) :
    classify p = .malformed ↔ p.check = crc16 (reqHeader p ++ p.data) ∧ isMalformed p = true := by
  rw [← reqGoodCheck_iff]
  cases hgood : reqGoodCheck p <;> cases hmal : isMalformed p <;> simp [classify, hgood, hmal]

theorem isDamagedResponse_iff (p : ResponsePacket) : isDamagedResponse p = true ↔
    p.check ≠ crc16 (rspHeader p ++ p.data) ∨ (p.status ≠ 0x01 ∧ p.status ≠ 0x02 ∧ p.status ≠ 0x03) ∨
      p.data.length ≠ p.length.toNat ∨ 64 < p.length.toNat ∨ (p.status = 0x02 ∧ p.length ≠ 0) := by
  rw [ne_eq, ← rspGoodCheck_iff]
  simp only [isDamagedResponse, statusOk, statusFault, statusRefused, Bool.or_eq_true, Bool.and_eq_true, bne_iff_ne, beq_iff_eq,
    decide_eq_true_eq, Bool.not_eq_true', Bool.not_eq_true, ne_eq, or_assoc, and_assoc]

end Sys2Proof.Machine

open Sys2Proof Sys2Proof.Machine

/-- Settles O13. -/
theorem matchSetMembers : Obligations.MatchSetMembers := by
  refine ⟨addressTests_iff, dataTests_iff, fun s kind cls p i hi =>
    ⟨hasRule_rulesWith _ s i hi, ?_, hasRule_writeMatchSet cls p s hi, hasRule_rulesWith _ s i hi, hasRule_rulesWith _ s i hi,
      hasRule_rulesWith _ s i hi, ?_⟩, fun s b e i hi => hasRule_responseMatchSet_iff b e s hi, meets_iff⟩
  · rw [dataRules, hasRule_rulesWith _ s i hi]
    exact hasDataTests_iff _
  · rw [withDataRules, hasRule_rulesWith _ s i hi]
    simp

/-- Settles O14. -/
theorem sourceGivesClassAndRewrite : Obligations.SourceGivesClassAndRewrite := by
  refine ⟨fun s i a hs hi hv => ?_, fun s src a h => ?_, fun p s => ⟨fun h => if_pos h, fun h => if_neg h⟩⟩
  · rw [classOf, rewrittenAttr, lookupSource_eq_some hs hi hv]
    exact ⟨rfl, rfl⟩
  · rw [classOf, rewrittenAttr, lookupSource_eq_none h]
    exact ⟨rfl, rfl⟩

/-- Settles O16. -/
theorem countersSaturate : Obligations.CountersSaturate :=
  ⟨fun _ => satInc_toNat, fun _ => satAdd_toNat, globalValue_countGlobal,
    fun len k _ hmax => ⟨countBin_blocked len k, fun _ hi _ _ h => bins_countBin hmax k hi h⟩⟩

/-- Settles O17. -/
theorem eventsPendAndDriveLine : Obligations.EventsPendAndDriveLine := by
  refine ⟨fun src m e => ?_, evtAsserted_iff, rfl, mem_allSources⟩
  have hself : eventRecord (raiseEvent src m e) src = ⟨true, satInc (eventRecord e src).count⟩ := by
    rw [eventRecord_raiseEvent, if_pos rfl]
  rw [hself]
  refine ⟨rfl, satInc_toNat _, fun other hne => ?_, rfl, rfl, rfl, rfl⟩
  rw [eventRecord_raiseEvent, if_neg hne.symm]

/-- Settles O18. -/
theorem arrivalClassified : Obligations.ArrivalClassified :=
  ⟨classify_eq_damaged_iff, fun p => (classify_eq_malformed_iff p).trans (and_congr Iff.rfl (isMalformed_iff p)), isDamagedResponse_iff⟩
end

section
/-! PROOFS. O19, O20, O22 to O28: arrivals and the head of the Request Buffer. -/

namespace Sys2Proof.Machine

set_option Elab.async false

/-! ## Arrivals -/

/-- R138: what the snoop looks at. -/
def CoversRing (p : RequestPacket) (s : State) : Prop :=
  s.ring.config.state = .valid ∧ classify p = .wellFormed ∧ p.kind = kindWr ∧
    p.address.toNat < s.ring.config.consumerAddr.toNat + 4 ∧
    s.ring.config.consumerAddr.toNat < p.address.toNat + p.length.toNat

theorem coversConsumerWord_iff (p : RequestPacket) (cfg : RingConfig) : coversConsumerWord p cfg = true ↔
    p.address.toNat < cfg.consumerAddr.toNat + 4 ∧ cfg.consumerAddr.toNat < p.address.toNat + p.length.toNat := by
  simp [coversConsumerWord]

theorem exec_requestArrival {s : State} (hup : s.linkUp = true) (hroom : s.near.buffer.length < 8) (p : RequestPacket) :
    exec (.requestArrival p) s =
      if classify p = .wellFormed ∧ p.kind = kindWr then .next (snoop p (bufferRequest p s)) else .next (bufferRequest p s) := by
  change execRequestArrival p s = _
  rw [execRequestArrival, if_neg (by simp [hup, Config.requestBufferSize, hroom])]

theorem exec_requestArrival_of_covers {p : RequestPacket} {s : State} (hup : s.linkUp = true) (hroom : s.near.buffer.length < 8)
    (h : CoversRing p s) :
    exec (.requestArrival p) s = .next
      (match candidateOf p s.ring.config with
        | some c' => if (c' - s.ring.c).toNat ≤ (s.ring.p - s.ring.c).toNat then acceptUpdate c' (bufferRequest p s)
            else rejectUpdate (bufferRequest p s)
        | none => rejectUpdate (bufferRequest p s)) := by
  obtain ⟨hvalid, hwf, hkind, hlow, hhigh⟩ := h
  have hcovers : (bufferRequest p s).ring.config.state = .valid ∧ coversConsumerWord p (bufferRequest p s).ring.config = true :=
    ⟨hvalid, (coversConsumerWord_iff _ _).mpr ⟨hlow, hhigh⟩⟩
  rw [exec_requestArrival hup hroom, if_pos ⟨hwf, hkind⟩, snoop, if_pos hcovers]
  rfl

theorem snoop_of_not_covers {p : RequestPacket} {s u : State} (hring : u.ring = s.ring)
    (h : ¬ (s.ring.config.state = .valid ∧ coversConsumerWord p s.ring.config = true)) : snoop p u = u :=
  if_neg (by rw [hring]; exact h)

theorem bufferRequest_of_wellFormed {p : RequestPacket} (h : classify p = .wellFormed) (s : State) : bufferRequest p s =
    { s with near := { s.near with buffer := s.near.buffer ++ [⟨p, .wellFormed⟩], granted := s.near.granted - 1 } } := by
  rw [bufferRequest, h]

theorem candidateOf_eq_some {p : RequestPacket} {cfg : RingConfig}
    (h : p.address.toNat ≤ cfg.consumerAddr.toNat ∧ cfg.consumerAddr.toNat + 4 ≤ p.address.toNat + p.length.toNat) :
    candidateOf p cfg = some (BitVec.ofNat 16 (leNat ((p.data.drop (cfg.consumerAddr.toNat - p.address.toNat)).take 2))) := if_pos h

theorem candidateOf_eq_none {p : RequestPacket} {cfg : RingConfig}
    (h : ¬ (p.address.toNat ≤ cfg.consumerAddr.toNat ∧ cfg.consumerAddr.toNat + 4 ≤ p.address.toNat + p.length.toNat)) :
    candidateOf p cfg = none := if_neg h

theorem rejectUpdate_eq (s : State) : rejectUpdate s =
    { s with
      events := raiseEvent .consumerInvalid 0 s.events
      counters := if s.ctrl.mode = .bypass then s.counters
        else { s.counters with globals := countGlobal .consumerInvalid s.counters.globals } } := by
  rw [rejectUpdate]
  change (if s.ctrl.mode = .bypass then _ else _) = _
  split <;> rfl

theorem releaseRequest_of_holdOf {s : State} (h : holdOf .request s = none) : releaseRequest s = s := by
  unfold releaseRequest
  split
  next hold next hhead => simp [holdOf, hhead] at h
  · rfl

theorem releaseResponse_of_holdOf {s : State} (h : holdOf .response s = none) : releaseResponse s = s := by
  unfold releaseResponse
  split
  next hold next hhead => simp [holdOf, hhead] at h
  · rfl

theorem offerFreedSlots_of_holdOf {s : State} (hreq : holdOf .request s = none) (hrsp : holdOf .response s = none) :
    offerFreedSlots s = s := by
  rw [offerFreedSlots, releaseRequest_of_holdOf hreq, releaseResponse_of_holdOf hrsp, releaseRequest_of_holdOf hreq, ite_self]

/-- The keys are unchanged by an answer, so that the entries that hold the key may be named by it. -/
theorem changeEntry_ort_byKey (src : SourceId) (tag : Tag) (f : OrtEntry → OrtEntry) (s : State) :
    (changeEntry src tag f s).ort = s.ort.map fun e => if e.source = src ∧ e.tag = tag then f e else e := by
  refine List.map_congr_left fun e _ => if_congr ?_ rfl rfl
  simp [holdsKey]

/-! ## The request at the head -/

theorem buffer_of_atHead {b : BufferedRequest} {s : State} (h : atHead b s) : s.near.buffer = b :: s.near.buffer.tail := by
  obtain ⟨-, hbuf⟩ := h
  cases hs : s.near.buffer with
  | nil => rw [hs] at hbuf; cases hbuf
  | cons x xs => rw [hs] at hbuf; cases hbuf; rfl

theorem buffer_of_responseAtHead {b : BufferedResponse} {s : State} (h : responseAtHead b s) :
    s.far.buffer = b :: s.far.buffer.tail := by
  obtain ⟨-, hbuf⟩ := h
  cases hs : s.far.buffer with
  | nil => rw [hs] at hbuf; cases hbuf
  | cons x xs => rw [hs] at hbuf; cases hbuf; rfl

theorem exec_requestAtHead {b : BufferedRequest} {s : State} (h : atHead b s) :
    exec .requestAtHead s = .next
      (if s.ctrl.mode = .bypass then setHead (.ready (untracked b.packet false)) s
      else match b.cls with
        | .damaged => damagedAtHead b.packet s
        | .malformed => malformedAtHead b.packet (sourceClash b.packet s)
        | .wellFormed => wellFormedAtHead b.packet (sourceClash b.packet s)) := by
  change execRequestAtHead s = _
  rw [execRequestAtHead, h.1, buffer_of_atHead h]
  dsimp only
  split
  · rfl
  · cases b.cls <;> rfl

theorem exec_requestAtHead_wellFormed {kind : Byte} {b : BufferedRequest} {s : State} (h : wellFormedHead kind b s) :
    exec .requestAtHead s = .next (wellFormedAtHead b.packet (clashed b.packet s)) := by
  obtain ⟨hat, hmode, hcls, -⟩ := h
  rw [exec_requestAtHead hat, if_neg hmode, hcls]
  rfl

theorem clashed_eq (p : RequestPacket) (s : State) : clashed p s =
    { s with events := if p.source = s.timers.monitorSource then raiseEvent .protocol 0 s.events else s.events } := by
  unfold clashed
  split <;> rfl

theorem wellFormedAtHead_write {p : RequestPacket} (h : p.kind = kindWr) (s : State) : wellFormedAtHead p s = writeAtHead p s :=
  if_neg (by rw [h]; decide)

theorem wellFormedAtHead_duplicate {p : RequestPacket} {s : State} (h : p.kind = kindRd) (hkey : keyInOrt p.source p.tag s = true) :
    wellFormedAtHead p s = duplicateAtHead p s := by
  rw [wellFormedAtHead, if_pos h, if_pos hkey]

theorem wellFormedAtHead_read {p : RequestPacket} {s : State} (h : p.kind = kindRd) (hkey : keyInOrt p.source p.tag s = false) :
    wellFormedAtHead p s = readAtHead p s := by
  rw [wellFormedAtHead, if_pos h, if_neg (by simp [hkey])]

theorem keyInOrt_iff (src : SourceId) (tag : Tag) (s : State) :
    keyInOrt src tag s = true ↔ ∃ e ∈ s.ort, e.source = src ∧ e.tag = tag := by
  simp [keyInOrt, holdsKey]

theorem exec_requestAtHead_read {b : BufferedRequest} {s : State} (h : wellFormedHead kindRd b s)
    (hkey : keyInOrt b.packet.source b.packet.tag s = false) :
    exec .requestAtHead s = .next (readAtHead b.packet (clashed b.packet s)) := by
  rw [exec_requestAtHead_wellFormed h]
  refine congrArg Host.Outcome.next (wellFormedAtHead_read h.2.2.2 ?_)
  rw [clashed_eq]
  exact hkey

theorem malformedAtHead_eq (p : RequestPacket) (s : State) : malformedAtHead p s =
    { s with
      near := if p.kind = kindRd then { s.near with head := .waitRefusal (malformedResponse p) false } else leftNear s.near
      counters := { s.counters with globals := countGlobal .refused (countGlobal .malformed s.counters.globals) }
      events := raiseEvent .protocol 0 s.events } := by
  unfold malformedAtHead
  dsimp only
  split <;> rfl

theorem writeAtHead_dropped {p : RequestPacket} {s : State} (hin : intrudes p s.ring.config = true)
    (hguard : s.ring.config.guard = true) : writeAtHead p s =
    { s with
      near := leftNear s.near
      counters := { s.counters with globals := countGlobal .refused (countGlobal .intrusions s.counters.globals) }
      events := raiseEvent .ringIntrusion 0 s.events } := by
  rw [writeAtHead, if_pos hin]
  exact if_pos hguard

theorem writeAtHead_evaluated {p : RequestPacket} {s : State}
    (h : ¬ (intrudes p s.ring.config = true ∧ s.ring.config.guard = true)) : writeAtHead p s =
    evaluateWrite p (if intrudes p s.ring.config = true then raise .ringIntrusion (count .intrusions s) else s) := by
  rw [writeAtHead]
  split
  next hin => exact if_neg fun hguard => h ⟨hin, hguard⟩
  · rfl

/-- Two ranges of bytes, neither empty, overlap exactly when they share a byte. -/
theorem overlaps_iff {addr len base size : Nat} (hl : 0 < len) (hs : 0 < size) : overlaps addr len base size = true ↔
    ∃ k, k < len ∧ base ≤ addr + k ∧ addr + k < base + size := by
  simp only [overlaps, Bool.and_eq_true, decide_eq_true_eq]
  constructor
  · rintro ⟨h1, h2⟩
    rcases Nat.le_total base addr with h | h
    · exact ⟨0, hl, by omega, by omega⟩
    · exact ⟨base - addr, by omega, by omega, by omega⟩
  · rintro ⟨k, hk, h1, h2⟩
    omega

theorem intrudes_iff {p : RequestPacket} {cfg : RingConfig} (hslots : 0 < cfg.slots) (hlen : 0 < p.length.toNat) :
    intrudes p cfg = true ↔ cfg.state = .valid ∧ ∃ k, k < p.length.toNat ∧
      ((cfg.base.toNat ≤ p.address.toNat + k ∧ p.address.toNat + k < cfg.base.toNat + cfg.slots * 128) ∨
        (cfg.producerAddr.toNat ≤ p.address.toNat + k ∧ p.address.toNat + k < cfg.producerAddr.toNat + 4)) := by
  have harea : 0 < Config.slotBytes * cfg.slots := Nat.mul_pos (by decide) hslots
  rw [intrudes, Bool.and_eq_true, Bool.or_eq_true, beq_iff_eq, overlaps_iff hlen harea, overlaps_iff hlen (by decide),
    ← exists_or, show Config.slotBytes * cfg.slots = cfg.slots * 128 from Nat.mul_comm _ _]
  simp only [← and_or_left]

end Sys2Proof.Machine

open Sys2Proof Sys2Proof.Machine

/-- Settles O19. -/
theorem arrivalsBuffered : Obligations.ArrivalsBuffered := by
  refine ⟨fun p s hup hroom hnot => ?_, fun p s hup hroom => ?_, fun now e => ⟨fun h => ?_, fun h => ?_, fun h => ?_⟩,
    fun p s h => ?_, fun p s h => ?_⟩
  · rw [exec_requestArrival hup hroom]
    split
    next hwrite =>
      rw [snoop_of_not_covers (s := s) (u := bufferRequest p s) rfl fun h => hnot ⟨h.1, hwrite.1, hwrite.2, (coversConsumerWord_iff _ _).mp h.2⟩]
      rfl
    · rfl
  · change execResponseArrival p s = _
    rw [execResponseArrival, if_neg (by simp [hup, Config.responseBufferSize, hroom])]
    exact congrArg (fun ort => Host.Outcome.next { bufferResponse p s with ort := ort }) (changeEntry_ort_byKey p.source p.tag (answerEntry s.time) s)
  · rw [answerEntry, h]
  · rw [answerEntry, h]
  · cases hphase : e.phase with
    | created => simp [hphase, isExpired] at h
    | timing => simp [hphase, isExpired] at h
    | answered => rw [answerEntry, hphase]
    | expired r => rw [answerEntry, hphase]
  · change execRequestArrival p s = _
    rw [execRequestArrival, if_pos (by simpa [Config.requestBufferSize] using h)]
  · change execResponseArrival p s = _
    rw [execResponseArrival, if_pos (by simpa [Config.responseBufferSize] using h)]

/-- Settles O20. -/
theorem consumerUpdateTaken : Obligations.ConsumerUpdateTaken := by
  intro p s hup hroom hvalid hwf hkind hlow hhigh
  have hexec := exec_requestArrival_of_covers hup hroom ⟨hvalid, hwf, hkind, hlow, hhigh⟩
  rw [bufferRequest_of_wellFormed hwf] at hexec
  refine ⟨fun ⟨hfrom, hto, hbetween⟩ hreq hrsp => ?_, fun hnot => ?_⟩
  · rw [hexec, candidateOf_eq_some ⟨hfrom, hto⟩]
    dsimp only
    rw [if_pos hbetween, acceptUpdate]
    exact congrArg Host.Outcome.next (offerFreedSlots_of_holdOf hreq hrsp)
  · rw [hexec]
    by_cases hall : p.address.toNat ≤ s.ring.config.consumerAddr.toNat ∧
        s.ring.config.consumerAddr.toNat + 4 ≤ p.address.toNat + p.length.toNat
    · rw [candidateOf_eq_some hall]
      dsimp only
      rw [if_neg fun hbetween => hnot ⟨hall.1, hall.2, hbetween⟩, rejectUpdate_eq]
    · rw [candidateOf_eq_none hall]
      dsimp only
      rw [rejectUpdate_eq]

/-- Settles O22. -/
theorem bypassPassesPackets : Obligations.BypassPassesPackets := by
  refine ⟨fun b s hat hmode => ?_, fun b s hat hmode hnone => ?_⟩
  · rw [exec_requestAtHead hat, if_pos hmode]
    rfl
  · change execResponseAtHead s = _
    rw [execResponseAtHead, hat.1, buffer_of_responseAtHead hat]
    dsimp only
    rw [hnone]
    exact if_pos hmode

/-- Settles O23. -/
theorem damagedAndMalformedRequests : Obligations.DamagedAndMalformedRequests := by
  refine ⟨fun b s hat hmode hcls => ⟨damagedAtHead b.packet s, ?_, fun i hi => ?_, rfl⟩, fun b s hat hmode hcls => ?_⟩
  · rw [exec_requestAtHead hat, if_neg hmode, hcls]
  · change (s.sources.mapIdx _).get i SourceEntry.empty = _
    rw [Table.get_mapIdx _ _ _ _ hi]
    simp only [Bool.and_eq_true, beq_iff_eq]
    rfl
  · rw [exec_requestAtHead hat, if_neg hmode, hcls]
    dsimp only
    rw [malformedAtHead_eq, show sourceClash b.packet s = clashed b.packet s from rfl, clashed_eq]
    rfl

/-- Settles O24. -/
theorem ringGuardDropsIntrusion : Obligations.RingGuardDropsIntrusion := by
  refine ⟨fun p cfg hslots hlen => intrudes_iff hslots hlen, fun b s hat hin hguard => ?_⟩
  rw [exec_requestAtHead_wellFormed hat, clashed_eq, wellFormedAtHead_write hat.2.2.2]
  exact congrArg Host.Outcome.next (writeAtHead_dropped hin hguard)

/-- Settles O25. -/
theorem readReachesHead : Obligations.ReadReachesHead := by
  refine ⟨fun b s hat hdup => ?_, ?_⟩
  · have hkey : keyInOrt b.packet.source b.packet.tag (clashed b.packet s) = true := by
      rw [clashed_eq]
      exact (keyInOrt_iff _ _ _).mpr hdup
    rw [exec_requestAtHead_wellFormed hat, wellFormedAtHead_duplicate hat.2.2.2 hkey, clashed_eq]
    rfl
  · intro b s hat hkey cand hmeets
    rw [exec_requestAtHead_read hat hkey, clashed_eq]
    exact congrArg Host.Outcome.next (if_neg (Bool.eq_false_iff.mp hmeets))

/-- Settles O26. -/
theorem entryCreated : Obligations.EntryCreated := by
  intro w b s hhead hbuf
  have hexec : exec .ortEntryCreate s =
      if s.ort.length < Config.ortSize then
        .next (setHead (.ready { packet := w.packet, counted := true, tracked := true })
          (addUses w.pendingRules { s with ort := s.ort ++ [newEntry b.packet w] }))
      else .next s := by
    change execOrtEntryCreate s = _
    cases hs : s.near.buffer with
    | nil => rw [hs] at hbuf; cases hbuf
    | cons x xs =>
      rw [hs] at hbuf
      cases hbuf
      rw [execOrtEntryCreate, hhead, hs]
  refine ⟨fun hroom => ?_, fun hfull => ?_⟩
  · rw [hexec, if_pos hroom]
    rfl
  · rw [hexec, if_neg (Nat.not_lt.mpr hfull)]

/-- Settles O27. -/
theorem readRefusedEarly : Obligations.ReadRefusedEarly := by
  refine ⟨?_, fun r counts s hhead => ?_⟩
  · intro b s hat hkey noData hmeets response o
    rw [exec_requestAtHead_read hat hkey]
    subst o
    rw [clashed_eq]
    exact congrArg Host.Outcome.next (if_pos hmeets)
  · have hexec : exec .refusalQueueAdmit s =
        if s.near.refusals.length < Config.refusalQueueSize then
          let t := popRequest { s with near := { s.near with refusals := s.near.refusals ++ [r] } }
          .next (if counts then count .refused t else t)
        else .next s := by
      change execRefusalQueueAdmit s = _
      rw [execRefusalQueueAdmit, hhead]
    refine ⟨fun hroom => ?_, fun hfull => ?_⟩
    · rw [hexec, if_pos hroom]
      cases counts <;> rfl
    · rw [hexec, if_neg (Nat.not_lt.mpr hfull)]

/-- Settles O28. -/
theorem writeResolved : Obligations.WriteResolved := by
  intro b s hat hkept
  rw [exec_requestAtHead_wellFormed hat, wellFormedAtHead_write hat.2.2.2]
  have hring : (clashed b.packet s).ring = s.ring := by rw [clashed_eq]
  rw [writeAtHead_evaluated (by rw [hring]; exact hkept), hring, clashed_eq]
  split <;> rfl
end

section
/-! PROOFS. O29, O30, O32, O33: resolutions, firings and the offer of a record. -/

namespace Sys2Proof.Machine

set_option Elab.async false

variable (m : RuleSet) (x : Transaction) (refused : Bool) (s : State)

/-! ## Per-rule counts -/

/-- The counters of one matched rule in ACTIVE, the two cases of R109. -/
theorem countRule_active (blocked : Bool) (len : Nat) (k : RuleCounters) : countRule true blocked len k =
    if blocked = true then { countBin len k with blocked := satInc (countBin len k).blocked } else countBin len k := rfl

theorem countRule_inactive (blocked : Bool) (len : Nat) (k : RuleCounters) : countRule false blocked len k =
    if blocked = true then { k with blocked := satInc k.blocked } else k := rfl

theorem countRules_active (len : Nat) (h : s.ctrl.mode = .active) : countRules m len refused s =
    { s with counters := { s.counters with perRule := (s.counters.perRule.mapIdx fun i k =>
        if hasRule m i then
          if refused = true ∧ (ruleAt s i).defn.actions.block = true then
            { countBin len k with blocked := satInc (countBin len k).blocked }
          else countBin len k
        else k) } } := by
  rw [countRules, h]
  simp only [beq_self_eq_true, countRule_active, Bool.and_eq_true]

theorem countRules_inactive (len : Nat) (h : s.ctrl.mode ≠ .active) : countRules m len refused s =
    { s with counters := { s.counters with perRule := (s.counters.perRule.mapIdx fun i k =>
        if hasRule m i = true ∧ refused = true ∧ (ruleAt s i).defn.actions.block = true then { k with blocked := satInc k.blocked }
        else k) } } := by
  rw [countRules, beq_false_of_ne h]
  simp only [countRule_inactive, Bool.and_eq_true, ite_and]

/-! ## Resolution -/

theorem signalRule_eq : signalRule m s =
    { s with events := if meets m (signalRules s) then raiseEvent .ruleSignal (m &&& signalRules s) s.events else s.events } := by
  unfold signalRule
  split <;> rfl

theorem resolve_inactive (h : s.ctrl.mode ≠ .active) : resolve m x refused s = (countRules m x.length.toNat refused s, none) := if_neg h

/-- The state that a resolution in ACTIVE offers to the sequencer: counted and signalled. -/
def signalled : State := signalRule m (countRules m x.length.toNat refused s)

theorem signalled_eq : signalled m x refused s =
    { s with
      counters := (countRules m x.length.toNat refused s).counters
      events := if meets m (signalRules s) then raiseEvent .ruleSignal (m &&& signalRules s) s.events else s.events } :=
  signalRule_eq _ _

theorem resolve_offered (h : s.ctrl.mode = .active) : resolve m x refused s =
    if ((offerToSequencer m (signalled m x refused s)).2 || meets m (captureRules (offerToSequencer m (signalled m x refused s)).1)) = true then
      ((createRecord m x (offerToSequencer m (signalled m x refused s)).2 (offerToSequencer m (signalled m x refused s)).1).1,
        some (newRecord m x (offerToSequencer m (signalled m x refused s)).2 (offerToSequencer m (signalled m x refused s)).1))
    else ((offerToSequencer m (signalled m x refused s)).1, none) := if_pos h

theorem offerToSequencer_some {q : SeqState} (h : takeMatch m s.time s.seqr = some q) :
    offerToSequencer m s = (setSeqState q s, false) := by
  rw [offerToSequencer, h]

theorem offerToSequencer_none (h : takeMatch m s.time s.seqr = none) : offerToSequencer m s = (fire s, true) := by
  rw [offerToSequencer, h]

theorem takeMatch_signalled : takeMatch m (signalled m x refused s).time (signalled m x refused s).seqr = takeMatch m s.time s.seqr := by
  rw [signalled_eq]

theorem createRecord_unfired : (createRecord m x false s).1 =
    countPost { s with ring := { s.ring with seq := s.ring.seq + 1 } } := rfl

theorem createRecord_fired : (createRecord m x true s).1 =
    takeSnapshot (newRecord m x true s) { s with ring := { s.ring with seq := s.ring.seq + 1 } } := rfl

/-! ## Firing -/

theorem enterFired_eq : enterFired s =
    { s with
      seqr := { s.seqr with state := .fired }
      ctrl := { s.ctrl with freezeRequests := s.ctrl.freezeRequests + (if s.seqr.settings.freeze then 1 else 0) } } := by
  unfold enterFired
  change (if s.seqr.settings.freeze = true then _ else _) = _
  split <;> rfl

theorem countPost_of_one (h : s.seqr.state = .post 1) : countPost s = enterFired s := by
  rw [countPost, h]
  exact if_pos (Nat.le_refl 1)

theorem countPost_of_more {n : Nat} (h : s.seqr.state = .post n) (hn : 2 ≤ n) : countPost s = setSeqState (.post (n - 1)) s := by
  rw [countPost, h]
  exact if_neg (by omega)

theorem countPost_of_not_post (h : inPost s.seqr.state = false) : countPost s = s := by
  unfold countPost
  split
  next r hr => rw [hr] at h; cases h
  · rfl

theorem startMark_eq : startMark s =
    { s with seqr := { s.seqr with markFiredAt := if s.seqr.settings.mark then some s.time else s.seqr.markFiredAt } } := by
  unfold startMark
  split <;> rfl

theorem fire_eq : fire s =
    { s with
      events := raiseEvent .fire 0 s.events
      ctrl := { s.ctrl with freezeRequests := s.ctrl.freezeRequests +
        (if s.seqr.settings.postCount = 0 ∧ s.seqr.settings.freeze = true then 1 else 0) }
      seqr := { s.seqr with
        state := if s.seqr.settings.postCount = 0 then .fired else .post s.seqr.settings.postCount
        markFiredAt := if s.seqr.settings.mark then some s.time else s.seqr.markFiredAt } } := by
  unfold fire
  rw [startMark_eq]
  change (if s.seqr.settings.postCount = 0 then _ else _) = _
  by_cases hpost : s.seqr.settings.postCount = 0
  · rw [if_pos hpost, if_pos hpost, enterFired_eq]
    simp only [hpost, true_and]
    rfl
  · rw [if_neg hpost, if_neg hpost]
    simp only [hpost, false_and, if_false]
    rfl

theorem takeSnapshot_eq (r : Record) : takeSnapshot r s =
    { s with seqr := { s.seqr with snapshot := match s.seqr.snapshot with
      | some y => some y
      | none => some { resetCount := s.port.resetCount, record := { r with data := padTo 32 r.data } } } } := by
  unfold takeSnapshot
  split
  next y hy => simp only [hy]; rw [← hy]
  next hnone => simp only [hnone]

/-! ## The offer of a record -/

theorem slotFree_iff_reserved : slotFree s = true ↔ reserved s < s.ring.config.slots := decide_eq_true_iff

theorem dropRecord_eq : dropRecord s = dropped s := by
  unfold dropRecord dropped
  change (if s.ring.overrun = true then _ else _) = _
  split <;> rfl

theorem dropped_far : (dropped s).far = s.far := by
  unfold dropped
  split <;> rfl

theorem recordFate_eq : recordFate s =
    if s.ring.overrun = false ∧ slotFree s = true then .reserve
    else if s.ring.config.mode = .lossless then .hold else .drop := by
  unfold recordFate
  refine if_congr (by simp) rfl ?_
  cases s.ring.config.mode <;> rfl

theorem placeRequest_eq (r : Record) (next : AfterCapture) : placeRequest r next s =
    if s.ring.queue.length < 4 ∧ waitingRecords s = 0 then continueRequest next { s with ring := queued r s.ring }
    else { s with near := { s.near with head := .waitRoom r next } } := if_congr (queueOpen_iff s) rfl rfl

theorem placeResponse_eq (r : Record) (p : ResponsePacket) : placeResponse r p s =
    if s.ring.queue.length < 4 ∧ waitingRecords s = 0 then { s with ring := queued r s.ring, far := { s.far with head := .ready p } }
    else { s with far := { s.far with head := .waitRoom r p } } := if_congr (queueOpen_iff s) rfl rfl

theorem captureRequest_some (r : Record) (next : AfterCapture) : captureRequest (some r) next s =
    if s.ring.overrun = false ∧ slotFree s = true then placeRequest r next s
    else if s.ring.config.mode = .lossless then setHead (.held (newHold r s) next) s
    else continueRequest next (dropped s) := by
  rw [captureRequest, recordFate_eq, ← dropRecord_eq]
  split_ifs <;> rfl

theorem captureResponse_some (r : Record) (p : ResponsePacket) : captureResponse (some r) p s =
    if s.ring.overrun = false ∧ slotFree s = true then placeResponse r p s
    else if s.ring.config.mode = .lossless then setResponseHead (.held (newHold r s) p) s
    else { dropped s with far := { s.far with head := .ready p } } := by
  rw [captureResponse, recordFate_eq, ← dropped_far, ← dropRecord_eq]
  split_ifs <;> rfl

end Sys2Proof.Machine

open Sys2Proof Sys2Proof.Machine

/-- Settles O29. -/
theorem frozenResolution : Obligations.FrozenResolution := by
  intro m x refused s hmode
  rw [resolve_inactive m x refused s hmode, countRules_inactive m refused s _ hmode]

/-- Settles O30. -/
theorem activeResolution : Obligations.ActiveResolution := by
  intro m x refused s q hmode htake u data r
  have hu : offerToSequencer m (signalled m x refused s) = (u, false) := by
    rw [offerToSequencer_some m _ ((takeMatch_signalled m x refused s).trans htake), signalled_eq, countRules_active m refused s _ hmode]
    rfl
  have hresolve : resolve m x refused s = if meets m (captureRules s) = true then
      (countPost { u with ring := { s.ring with seq := s.ring.seq + 1 } }, some r) else (u, none) := by
    rw [resolve_offered m x refused s hmode, hu]
    rfl
  refine ⟨fun hno => ?_, fun hcapture => ?_, fun n v hv hn => countPost_of_more v hv hn, fun v hv => ?_, fun v hv => countPost_of_not_post v hv⟩
  · rw [hresolve, if_neg (Bool.eq_false_iff.mp hno)]
  · rw [hresolve, if_pos hcapture]
  · rw [countPost_of_one v hv, enterFired_eq]

/-- Settles O32. -/
theorem firingRecorded : Obligations.FiringRecorded := by
  intro m x refused s hmode htake
  have hfire : offerToSequencer m (signalled m x refused s) = (fire (signalled m x refused s), true) :=
    offerToSequencer_none m _ ((takeMatch_signalled m x refused s).trans htake)
  have hresolve : resolve m x refused s =
      ((createRecord m x true (fire (signalled m x refused s))).1, some (newRecord m x true (fire (signalled m x refused s)))) := by
    rw [resolve_offered m x refused s hmode, hfire]
    rfl
  intro data r signalled
  rw [hresolve, createRecord_fired, takeSnapshot_eq, fire_eq, signalled_eq]
  exact ⟨rfl, rfl⟩

/-- Settles O33. -/
theorem recordOffered : Obligations.RecordOffered := by
  refine ⟨fun r next s => ?_, fun r p s => ?_, fun next p s => ⟨rfl, rfl⟩, fun s f p => ⟨rfl, rfl, rfl⟩, slotFree_iff_reserved⟩
  · rw [captureRequest_some, placeRequest_eq]
    rfl
  · rw [captureResponse_some, placeResponse_eq]
    rfl
end

section
/-! PROOFS. O34 to O38: the head of the Response Buffer, waiting records and expiry. -/

namespace Sys2Proof.Machine

set_option Elab.async false

/-! ## The response at the head -/

theorem exec_responseAtHead {b : BufferedResponse} {s : State} (h : responseAtHead b s) :
    exec .responseAtHead s = .next
      (match findLive b.packet.source b.packet.tag s with
        | none => if s.ctrl.mode = .bypass then setResponseHead (.ready b.packet) s else strayAtHead b s
        | some e =>
          if s.ctrl.mode = .bypass then orphanAtHead b e s
          else if e.orphaned then orphanAtHead b e (countResponseDamage b e s)
          else resolveByResponse b e (countResponseDamage b e s)) := by
  change execResponseAtHead s = _
  rw [execResponseAtHead, h.1, buffer_of_responseAtHead h]
  dsimp only
  cases findLive b.packet.source b.packet.tag s <;> dsimp only <;> split_ifs <;> rfl

theorem findLive_eq_none {src : SourceId} {tag : Tag} {s : State}
    (h : ∀ e ∈ s.ort, e.source = src → e.tag = tag → isExpired e = true) : findLive src tag s = none := by
  refine List.find?_eq_none.mpr fun e he hlive => ?_
  simp only [holdsKeyLive, holdsKey, Bool.and_eq_true, beq_iff_eq, Bool.not_eq_true'] at hlive
  obtain ⟨⟨hsrc, htag⟩, hexp⟩ := hlive
  exact Bool.false_ne_true (hexp.symm.trans (h e he hsrc htag))

theorem sourceAt_countDamaged (src : SourceId) (s : State) {i : Nat} (hi : i < 16) : sourceAt (countDamaged src s) i =
    if (sourceAt s i).valid = true ∧ (sourceAt s i).sourceId = src then
      { sourceAt s i with damaged := satInc (sourceAt s i).damaged } else sourceAt s i := by
  change (s.sources.mapIdx _).get i SourceEntry.empty = _
  rw [Table.get_mapIdx _ _ _ _ hi]
  simp only [Bool.and_eq_true, beq_iff_eq]
  rfl

theorem lengthMismatch_iff (b : BufferedResponse) (e : OrtEntry) : lengthMismatch b e = true ↔
    b.damaged = false ∧ b.packet.status = statusOk ∧ b.packet.length ≠ e.length := by
  simp [lengthMismatch, and_assoc]

theorem countResponseDamage_eq (b : BufferedResponse) (e : OrtEntry) (s : State) : countResponseDamage b e s =
    if b.damaged = true ∨ (b.damaged = false ∧ b.packet.status = statusOk ∧ b.packet.length ≠ e.length) then
      countDamaged b.packet.source s else s :=
  if_congr (by rw [Bool.or_eq_true, lengthMismatch_iff]) rfl rfl

theorem countResponseDamage_keeps (b : BufferedResponse) (e : OrtEntry) (s : State) :
    (countResponseDamage b e s).rules = s.rules ∧ (countResponseDamage b e s).fill = s.fill ∧
      (countResponseDamage b e s).far = s.far := by
  unfold countResponseDamage
  split <;> exact ⟨rfl, rfl, rfl⟩

theorem responseOutcome_eq (b : BufferedResponse) (e : OrtEntry) (refused : Bool) : responseOutcome b e refused =
    if refused = true then .refusedLate
    else if b.damaged = false ∧ b.packet.status = statusOk ∧ b.packet.length = e.length then .forwarded
    else if b.damaged = true ∨ (b.damaged = false ∧ b.packet.status = statusOk ∧ b.packet.length ≠ e.length) then .responseDamaged
    else .memoryFault := by
  unfold responseOutcome
  refine if_congr Iff.rfl rfl (if_congr (hasTestedData_iff b e) rfl (if_congr ?_ rfl rfl))
  rw [Bool.or_eq_true, lengthMismatch_iff]

theorem responseTransaction_eq (b : BufferedResponse) (e : OrtEntry) (refused : Bool) : responseTransaction b e refused =
    { kind := .rd, source := e.source, tag := e.tag, cls := e.cls, attr := e.attr, address := e.address, length := e.length,
      outcome := if refused = true then .refusedLate
        else if b.damaged = false ∧ b.packet.status = statusOk ∧ b.packet.length = e.length then .forwarded
        else if b.damaged = true ∨ (b.damaged = false ∧ b.packet.status = statusOk ∧ b.packet.length ≠ e.length) then .responseDamaged
        else .memoryFault
      latency := latencyOf e
      data := if b.damaged = false ∧ b.packet.status = statusOk ∧ b.packet.length = e.length then b.packet.data else [] } := by
  rw [responseTransaction, responseOutcome_eq]
  simp only [hasTestedData_iff]

theorem rulesWith_congr {s u : State} (h : u.rules = s.rules) (p : Rule → Bool) : rulesWith p u = rulesWith p s := by
  simp only [rulesWith, ruleAt, h]

theorem responseMatchSet_congr {s u : State} (h : u.rules = s.rules) (b : BufferedResponse) (e : OrtEntry) :
    responseMatchSet b e u = responseMatchSet b e s := by
  simp only [responseMatchSet, dataMatches, rulesWith_congr h]

theorem lateRefusal_congr {s u : State} (h : u.fill = s.fill) (e : OrtEntry) : lateRefusal e u = lateRefusal e s := by
  simp only [lateRefusal, fillData, h]

/-! ## The restored Attr (R4, R39) -/

theorem restoreAttr_of_eq {a : Attr} {p : ResponsePacket} (h : p.attr = a) : restoreAttr a p = p := if_pos h

theorem restoreAttr_of_ne {a : Attr} {p : ResponsePacket} (h : p.attr ≠ a) : restoreAttr a p =
    { p with
      attr := a
      check := if p.check = crc16 (rspHeader p ++ p.data) then crc16 (rspHeader { p with attr := a } ++ p.data)
        else ~~~ crc16 (rspHeader { p with attr := a } ++ p.data) } := by
  rw [restoreAttr, if_neg h]
  simp only [rspGoodCheck_iff]
  rfl

theorem not_ne_self (x : Check16) : ~~~ x ≠ x := by
  intro h
  have hbit := congrArg (fun y : Check16 => y.getLsbD 0) h
  simp at hbit

theorem rspGoodCheck_restoreAttr (a : Attr) (p : ResponsePacket) : rspGoodCheck (restoreAttr a p) = rspGoodCheck p := by
  by_cases h : p.attr = a
  · rw [restoreAttr_of_eq h]
  · rw [restoreAttr_of_ne h]
    by_cases hgood : p.check = crc16 (rspHeader p ++ p.data)
    · rw [if_pos hgood, (rspGoodCheck_iff p).mpr hgood]
      exact (rspGoodCheck_iff _).mpr rfl
    · rw [if_neg hgood, Bool.eq_false_iff.mpr fun hp => hgood ((rspGoodCheck_iff p).mp hp)]
      exact Bool.eq_false_iff.mpr fun hp => not_ne_self _ ((rspGoodCheck_iff _).mp hp)

/-! ## Expiry -/

theorem timerDue_iff (now : Ticks) (e : OrtEntry) : timerDue now e = true ↔ Due now e := by
  unfold timerDue Due
  split
  next start limit hphase hstart hlimit => simp [hphase, hstart, hlimit, hasRunOut]
  next hnot =>
    refine ⟨fun h => (Bool.false_ne_true h).elim, ?_⟩
    rintro ⟨hphase, start, limit, hstart, hlimit, -⟩
    exact (hnot start limit hphase hstart hlimit).elim

theorem exec_readTimerExpiry {src : SourceId} {tag : Tag} {e : OrtEntry} {s : State} (hf : findLive src tag s = some e)
    (hdue : Due s.time e) : exec (.readTimerExpiry src tag) s = .next (if e.orphaned then withoutEntry e s else expire e s) := by
  obtain ⟨-, hsrc, htag, -⟩ := findLive_some hf
  change execReadTimerExpiry src tag s = _
  rw [execReadTimerExpiry, hf]
  dsimp only
  rw [if_pos ((timerDue_iff _ _).mpr hdue), ← hsrc, ← htag]
  split <;> rfl

theorem placeExpiry_some (e : OrtEntry) (r : Record) (t : State) : placeExpiry e (some r) t =
    if t.ring.overrun = false ∧ slotFree t = true then
      if t.ring.queue.length < 4 ∧ waitingRecords t = 0 then withoutEntry e { t with ring := queued r t.ring }
      else { t with
        ort := t.ort.map fun x => if x.source = e.source ∧ x.tag = e.tag then { x with phase := .expired r, pendingRules := 0 } else x
        rules := rulesWithout e.pendingRules t.rules }
    else if t.ring.config.mode = .lossless then withoutEntry e (lost t)
    else withoutEntry e (dropped t) := by
  have hkeep : keepExpired e r t = { t with
      ort := t.ort.map fun x => if x.source = e.source ∧ x.tag = e.tag then { x with phase := .expired r, pendingRules := 0 } else x
      rules := rulesWithout e.pendingRules t.rules } :=
    congrArg (fun ort => { t with ort := ort, rules := rulesWithout e.pendingRules t.rules })
      (changeEntry_ort_byKey e.source e.tag (fun x => { x with phase := .expired r, pendingRules := 0 }) t)
  rw [placeExpiry, recordFate_eq, ← hkeep, ← dropRecord_eq]
  simp only [queueOpen_iff]
  split_ifs <;> rfl

theorem slotFree_congr {s t : State} (hring : t.ring = s.ring) (hnear : t.near = s.near) (hfar : t.far = s.far) (hort : t.ort = s.ort) :
    slotFree t = slotFree s := by
  rw [Bool.eq_iff_iff, slotFree_iff_reserved, slotFree_iff_reserved]
  simp only [reserved, waitingRecords, hring, hnear, hfar, hort]

theorem slotFree_resolve (m : RuleSet) (x : Transaction) (refused : Bool) (s : State) : slotFree (resolve m x refused s).1 = slotFree s := by
  rw [Bool.eq_iff_iff, slotFree_iff_reserved, slotFree_iff_reserved]
  simp [reserved, unconsumed, waitingRecords]

theorem waitingRecords_resolve (m : RuleSet) (x : Transaction) (refused : Bool) (s : State) :
    waitingRecords (resolve m x refused s).1 = waitingRecords s := by
  simp [waitingRecords]

/-! ## Waiting records -/

theorem firstWaiter_eq_none_iff (next : BitVec 32) (ws : List Waiter) : firstWaiter next ws = none ↔ ws = [] := by
  cases ws with
  | nil => exact ⟨fun _ => rfl, fun _ => rfl⟩
  | cons w ws =>
    refine ⟨fun h => ?_, nofun⟩
    unfold firstWaiter at h
    split at h
    · cases h
    · split at h <;> cases h

end Sys2Proof.Machine

open Sys2Proof Sys2Proof.Machine

/-- Settles O34. -/
theorem strayDelivered : Obligations.StrayDelivered := by
  refine ⟨fun b s hat hmode hkeys => ?_, fun src s => ⟨rfl, fun i hi => sourceAt_countDamaged src s hi⟩⟩
  have hexec : exec .responseAtHead s = .next (strayAtHead b s) := by
    rw [exec_responseAtHead hat, findLive_eq_none hkeys]
    exact congrArg Host.Outcome.next (if_neg hmode)
  refine ⟨fun hgood => ?_, fun hbad => ?_⟩
  · rw [hexec, strayAtHead, hgood]
    rfl
  · rw [hexec, strayAtHead, hbad]
    rfl

/-- Settles O35. -/
theorem orphanRestored : Obligations.OrphanRestored := by
  refine ⟨fun b e s hat hf horphan => ?_, fun a p => ⟨?_, restoreAttr_of_eq, rspGoodCheck_restoreAttr a p, fun h => ?_⟩⟩
  · rw [exec_responseAtHead hat, hf]
    dsimp only
    by_cases hmode : s.ctrl.mode = .bypass
    · rw [if_pos hmode, if_neg fun h => h.1 hmode]
      rfl
    · have hcount : (if s.ctrl.mode ≠ .bypass ∧
          (b.damaged = true ∨ (b.packet.status = statusOk ∧ b.packet.length ≠ e.length)) then countDamaged b.packet.source s else s) =
          countResponseDamage b e s := by
        rw [countResponseDamage_eq]
        refine if_congr ?_ rfl rfl
        cases b.damaged <;> simp [hmode]
      rw [if_neg hmode, if_pos horphan, hcount, ← (countResponseDamage_keeps b e s).2.2]
      rfl
  · by_cases h : p.attr = a
    · rw [restoreAttr_of_eq h, ← h]
    · rw [restoreAttr_of_ne h]
  · rw [restoreAttr_of_ne h]

/-- Settles O36. -/
theorem trackedReadResolved : Obligations.TrackedReadResolved := by
  refine ⟨?_, fun e sent arrived hearly hsent harrived => ?_, fun e h => ?_⟩
  · intro b e s hat hmode hf htracked mismatch tested s₁ m refused s₂ o response
    obtain ⟨hrules, hfill, -⟩ := countResponseDamage_keeps b e s
    have hs₁ : countResponseDamage b e s = s₁ := countResponseDamage_eq b e s
    rw [exec_responseAtHead hat, hf]
    dsimp only
    rw [if_neg hmode, if_neg (by simp [htracked]), resolveByResponse, responseMatchSet_congr hrules, blockRules, rulesWith_congr hrules,
      lateRefusal_congr hfill, responseTransaction_eq, hs₁]
    rfl
  · rw [latencyOf, hearly, hsent, harrived]
  · unfold latencyOf
    split
    next hearly hsent harrived => simp [hearly, hsent, harrived] at h
    · rfl

/-- Settles O37. -/
theorem waitingRecordAdmitted : Obligations.WaitingRecordAdmitted := by
  refine ⟨fun w s hroom hw => ?_, fun next ws w h => ⟨mem_of_firstWaiter h, firstWaiter_first h⟩, firstWaiter_eq_none_iff,
    fun s => ⟨fun r next => request_mem_waiters r next s, fun r p => response_mem_waiters r p s, fun r e => entry_mem_waiters r e s⟩,
    fun s h => ?_⟩
  · change execCaptureQueueAdmit s = _
    rw [execCaptureQueueAdmit, if_pos (by simpa [Config.captureQueueSize] using hroom), hw]
    cases w <;> rfl
  · change execCaptureQueueAdmit s = _
    unfold execCaptureQueueAdmit
    split
    next hroom =>
      have hnone : waiters s = [] := h.resolve_left (Nat.not_le.mpr hroom)
      rw [hnone]
      rfl
    · rfl

/-- Settles O38. -/
theorem readExpires : Obligations.ReadExpires := by
  refine ⟨fun src tag e s hf hdue horphan => ?_, ?_, fun src tag s hnot => ?_, fun src tag e s => findLive_some⟩
  · rw [exec_readTimerExpiry hf hdue, if_pos horphan]
  · intro src tag e s hf hdue htracked s' o t
    rw [exec_readTimerExpiry hf hdue, if_neg (by simp [htracked])]
    have hexpire : expire e s = placeExpiry e o.2 t := rfl
    have hs' : s'.ring = s.ring ∧ s'.near = s.near ∧ s'.far = s.far ∧ s'.ort = s.ort := by
      by_cases hmode : s.ctrl.mode = .bypass
      · rw [show s' = s from if_pos hmode]
        exact ⟨rfl, rfl, rfl, rfl⟩
      · rw [show s' = raise .readExpired (count .readExpiries s) from if_neg hmode]
        exact ⟨rfl, rfl, rfl, rfl⟩
    obtain ⟨hring, hnear, hfar, hort⟩ := hs'
    have hslot : slotFree t = slotFree s := (slotFree_resolve _ _ _ _).trans (slotFree_congr hring hnear hfar hort)
    have hwaits : waitingRecords t = waitingRecords s :=
      (waitingRecords_resolve _ _ _ _).trans (by simp only [waitingRecords, hnear, hfar, hort])
    have hoverrun : t.ring.overrun = s.ring.overrun := (resolve_ring_overrun _ _ _ _).trans (by rw [hring])
    have hqueue : t.ring.queue = s.ring.queue := (resolve_ring_queue _ _ _ _).trans (by rw [hring])
    have hconfig : t.ring.config = s.ring.config := (resolve_ring_config _ _ _ _).trans (by rw [hring])
    rw [hexpire]
    cases hr : o.2 with
    | none => rfl
    | some r => rw [placeExpiry_some, hslot, hwaits, hoverrun, hqueue, hconfig]
  · change execReadTimerExpiry src tag s = _
    unfold execReadTimerExpiry
    split
    · rfl
    next e hf => exact if_neg fun h => hnot e hf ((timerDue_iff _ _).mp h)
end

section
/-! PROOFS. O39 to O43: the arbiters, the Capture Writer, and what runs out. -/

namespace Sys2Proof.Machine

set_option Elab.async false

/-! ## The Far port -/

theorem countForwarded_eq (f : Forwarding) (s : State) : countForwarded f s =
    { s with counters := if f.counted then { s.counters with globals :=
        (countGlobal (if f.packet.kind = kindRd then .forwardedReads else .forwardedWrites)
          (countGlobal .forwardedRequests s.counters.globals)) }
      else s.counters } := by
  unfold countForwarded
  split_ifs <;> rfl

theorem startReadTimer_eq (f : Forwarding) (s : State) : startReadTimer f s =
    { s with ort := if f.tracked then (s.ort.map fun e =>
        if e.source = f.packet.source ∧ e.tag = f.packet.tag then startTimer s.time s.timers.readTimeout e else e)
      else s.ort } := by
  rw [← changeEntry_ort_byKey]
  unfold startReadTimer
  split <;> rfl

theorem offeredRequest_of_ready {f : Forwarding} {s : State} (h : s.near.head = .ready f) : offeredRequest s = some f := by
  rw [offeredRequest, h]

theorem farWinner_request {f : Forwarding} {s : State} (hoffered : offeredRequest s = some f)
    (h : s.ring.writer = .idle ∨ s.far.lastWinner = .writer) : farWinner s = some .request := by
  unfold farWinner
  rw [hoffered]
  rcases h with hidle | hlast
  · rw [hidle]
    rfl
  · rw [hlast]
    cases presentedPacket s.ring.writer <;> rfl

theorem farWinner_writer {p : RequestPacket} {s : State} (hp : presentedPacket s.ring.writer = some p)
    (h : offeredRequest s = none ∨ s.far.lastWinner = .request) : farWinner s = some .writer := by
  unfold farWinner
  rw [hp]
  rcases h with hnone | hlast
  · rw [hnone]
  · rw [hlast]
    cases offeredRequest s <;> rfl

theorem exec_farPortGrant_request {f : Forwarding} {s : State} (hup : s.linkUp = true) (hcredit : 0 < s.far.credits)
    (hhead : s.near.head = .ready f) (h : s.ring.writer = .idle ∨ s.far.lastWinner = .writer) :
    exec .farPortGrant s = .next (grantRequest f s) := by
  have hoffered := offeredRequest_of_ready hhead
  change execFarPortGrant s = _
  rw [execFarPortGrant, if_pos ⟨hup, hcredit⟩, farWinner_request hoffered h, hoffered]

theorem exec_farPortGrant_writer {p : RequestPacket} {s : State} (hup : s.linkUp = true) (hcredit : 0 < s.far.credits)
    (hp : presentedPacket s.ring.writer = some p) (h : offeredRequest s = none ∨ s.far.lastWinner = .request) :
    exec .farPortGrant s = .next (advanceWriter (sendFar p .writer s)) := by
  change execFarPortGrant s = _
  rw [execFarPortGrant, if_pos ⟨hup, hcredit⟩, farWinner_writer hp h, hp]

theorem startTimer_cases (now : Ticks) (limit : BitVec 16) (e : OrtEntry) :
    (e.phase = .created → startTimer now limit e = { e with phase := .timing, requestTime := some now, limit := some limit }) ∧
    (e.phase = .answered → e.requestTime = none → startTimer now limit e = { e with requestTime := some now, limit := some limit }) ∧
    (e.phase = .timing ∨ isExpired e = true → startTimer now limit e = e) := by
  unfold startTimer isExpired
  cases e.phase with
  | created => exact ⟨fun _ => rfl, nofun, nofun⟩
  | timing => exact ⟨nofun, nofun, fun _ => rfl⟩
  | answered => exact ⟨nofun, fun _ h => if_pos h, nofun⟩
  | expired r => exact ⟨nofun, nofun, fun _ => rfl⟩

/-! ## The Capture Writer -/

theorem advanceWriter_first {p : RequestPacket} {q : QueuedRecord} {s : State} (hw : s.ring.writer = .first p)
    (hq : s.ring.queue.head? = some q) : advanceWriter s =
    setWriter (if 32 < q.record.dataCount.toNat then .second (secondWrite q s) else .producer (producerWrite (s.ring.p + 1) s) false) s := by
  cases hs : s.ring.queue with
  | nil => rw [hs] at hq; cases hq
  | cons x xs =>
    rw [hs] at hq
    cases hq
    rw [advanceWriter, hw, hs]
    dsimp only
    split <;> rfl

theorem advanceWriter_second {p : RequestPacket} {s : State} (hw : s.ring.writer = .second p) :
    advanceWriter s = presentProducer s := by
  rw [advanceWriter, hw]

theorem advanceWriter_publish {p : RequestPacket} {s : State} (hw : s.ring.writer = .producer p false) :
    advanceWriter s = publish s := by
  rw [advanceWriter, hw]

theorem advanceWriter_complete {p : RequestPacket} {s : State} (hw : s.ring.writer = .producer p true) :
    advanceWriter s = completeSetRing s := by
  rw [advanceWriter, hw]

theorem reqGoodCheck_reqSealed (p : RequestPacket) : reqGoodCheck (reqSealed p) = true := by
  simp only [reqGoodCheck, reqSealed, reqCheck, reqHeader, beq_self_eq_true]

theorem padTo_length (n : Nat) (bytes : List Byte) : (padTo n bytes).length = n := by
  rw [padTo, List.length_append, List.length_take, List.length_replicate]
  omega

theorem recordHeader_length (r : Record) : (recordHeader r).length = 32 := rfl

/-! ## The Near port's response side -/

theorem offeredResponse_of_ready {p : ResponsePacket} {s : State} (h : s.far.head = .ready p) : offeredResponse s = some p := by
  rw [offeredResponse, h]

theorem offeredResponse_eq_none {s : State} (h : ∀ q, s.far.head ≠ .ready q) : offeredResponse s = none := by
  unfold offeredResponse
  split
  next q hq => exact (h q hq).elim
  · rfl

theorem nearWinner_memory {p : ResponsePacket} {s : State} (hoffered : offeredResponse s = some p)
    (h : s.near.refusals = [] ∨ s.near.lastWinner = .refusalQueue) : nearWinner s = some .memory := by
  unfold nearWinner
  rw [hoffered]
  rcases h with hempty | hlast
  · rw [hempty]
  · rw [hlast]
    cases s.near.refusals <;> rfl

theorem nearWinner_refusalQueue {p : ResponsePacket} {rest : List ResponsePacket} {s : State} (hq : s.near.refusals = p :: rest)
    (h : offeredResponse s = none ∨ s.near.lastWinner = .memory) : nearWinner s = some .refusalQueue := by
  unfold nearWinner
  rw [hq]
  rcases h with hnone | hlast
  · rw [hnone]
  · rw [hlast]
    cases offeredResponse s <;> rfl

theorem nearWinner_eq_none {s : State} (hnone : offeredResponse s = none) (hempty : s.near.refusals = []) : nearWinner s = none := by
  rw [nearWinner, hnone, hempty]

/-! ## What runs out -/

theorem hasRunOut_iff (now start : Ticks) (limit : Nat) : hasRunOut now start limit = true ↔ limit ≤ (now - start).toNat :=
  decide_eq_true_iff

theorem exec_holdExpiry {side : HoldSide} {h : Hold} {s : State} (hhold : holdOf side s = some h)
    (hdue : h.limit.toNat ≤ (s.time - h.start).toNat) : exec (.holdExpiry side) s = .next
      (match side with
        | .request => abandonHeldRequest (holdRanOut s)
        | .response => abandonHeldResponse (holdRanOut s)) := by
  change execHoldExpiry side s = _
  unfold execHoldExpiry
  rw [hhold]
  dsimp only
  rw [if_pos ((hasRunOut_iff _ _ _).mpr hdue)]
  cases side <;> rfl

theorem inHardReset_eq_false {s : State} (hp : s.pins.power = false) (hb : s.pins.board = false) : inHardReset s = false := by
  simp [inHardReset, hp, hb]

theorem inHardReset_iff (s : State) : inHardReset s = true ↔ s.pins.power = true ∨ s.pins.board = true := by
  simp [inHardReset]

end Sys2Proof.Machine

open Sys2Proof Sys2Proof.Machine

/-- Settles O39. -/
theorem requestGranted : Obligations.RequestGranted := by
  refine ⟨fun f s hup hcredit hhead hwin => ?_, startTimer_cases⟩
  rw [exec_farPortGrant_request hup hcredit hhead hwin, grantRequest, countForwarded_eq, startReadTimer_eq]
  rfl

/-- Settles O40. -/
theorem writerAdvances : Obligations.WriterAdvances := by
  refine ⟨fun q s hidle hq hup => ?_, ?_, fun a data s => ⟨rfl, reqGoodCheck_reqSealed _⟩, fun r => ⟨?_, padTo_length _ _, ?_, rfl⟩,
    fun s h => ?_⟩
  · change execCaptureWriterStart s = _
    cases hs : s.ring.queue with
    | nil => rw [hs] at hq; cases hq
    | cons x xs =>
      rw [hs] at hq
      cases hq
      rw [execCaptureWriterStart, hidle, hs]
      exact if_pos hup
  · intro p s hup hcredit hp hwin far producer
    rw [exec_farPortGrant_writer hup hcredit hp hwin]
    refine ⟨fun q hw hq => ?_, fun hw => ?_, fun hw => ?_, fun hw => ?_⟩
    · exact congrArg Host.Outcome.next (advanceWriter_first (s := sendFar p .writer s) hw hq)
    · exact congrArg Host.Outcome.next (advanceWriter_second (s := sendFar p .writer s) hw)
    · exact congrArg Host.Outcome.next (advanceWriter_publish (s := sendFar p .writer s) hw)
    · exact congrArg Host.Outcome.next (advanceWriter_complete (s := sendFar p .writer s) hw)
  · rw [firstWriteData, List.length_append, recordHeader_length, padTo_length]
  · have hkind : kindByte r.kind = if r.kind = .rd then 0x01 else 0x02 := by cases r.kind <;> rfl
    simp [firstWriteData, recordHeader, recordMiddle, padTo, hkind]
  · change execFarPortGrant s = _
    refine if_neg fun ⟨hup, hcredit⟩ => ?_
    rcases h with hdown | hno
    · simp [hdown] at hup
    · omega

/-- Settles O41. -/
theorem responseGranted : Obligations.ResponseGranted := by
  refine ⟨fun p s hup hcredit hhead hwin => ?_, fun p rest s hup hcredit hq hwin => ?_, fun s h => ?_⟩
  · have hoffered := offeredResponse_of_ready hhead
    change execNearPortResponseGrant s = _
    rw [execNearPortResponseGrant, if_pos ⟨hup, hcredit⟩, nearWinner_memory hoffered hwin, hoffered]
    rfl
  · have hwin' : offeredResponse s = none ∨ s.near.lastWinner = .memory := hwin.imp_left offeredResponse_eq_none
    change execNearPortResponseGrant s = _
    rw [execNearPortResponseGrant, if_pos ⟨hup, hcredit⟩, nearWinner_refusalQueue hq hwin', hq]
    rfl
  · change execNearPortResponseGrant s = _
    unfold execNearPortResponseGrant
    split
    next hready =>
      obtain ⟨hup, hcredit⟩ := hready
      rcases h with hdown | hno | ⟨hnone, hempty⟩
      · simp [hdown] at hup
      · omega
      · rw [nearWinner_eq_none (offeredResponse_eq_none hnone) hempty]
    · rfl

/-- Settles O42. -/
theorem holdRunsOut : Obligations.HoldRunsOut := by
  intro s u
  refine ⟨fun h next hhead hdue => ?_, fun h p hhead hdue => ?_, fun side hnot => ?_⟩
  · rw [exec_holdExpiry (side := .request) (by rw [holdOf, hhead]) hdue, abandonHeldRequest, holdRanOut]
    change Host.Outcome.next (match s.near.head with | .held _ next => _ | _ => _) = _
    rw [hhead]
    rfl
  · rw [exec_holdExpiry (side := .response) (by rw [holdOf, hhead]) hdue, abandonHeldResponse, holdRanOut]
    change Host.Outcome.next (match s.far.head with | .held _ p => _ | _ => _) = _
    rw [hhead]
    rfl
  · change execHoldExpiry side s = _
    unfold execHoldExpiry
    split
    · rfl
    next h hhold =>
      exact if_neg fun hdue => Nat.not_le.mpr (hnot h hhold) ((hasRunOut_iff _ _ _).mp hdue)

/-- Settles O43. -/
theorem timeAndFreeze : Obligations.TimeAndFreeze := by
  refine ⟨fun s hp hb => ?_, fun s h => ?_, fun k progress start s hrun => ?_, fun s hno => ?_, fun start s hmark => ?_, fun s hno => ?_,
    ?_, fun s hno => ?_⟩
  · change execTimeTick s = _
    rw [execTimeTick, if_neg (by simp [inHardReset_eq_false hp hb])]
  · change execTimeTick s = _
    rw [execTimeTick, if_pos ((inHardReset_iff s).mpr h)]
  · change execStageWindowExpiry s = _
    rw [execStageWindowExpiry, hrun]
    simp only [hasRunOut_iff]
    split
    · cases (stageAt s.seqr k).onExpiry <;> rfl
    · rfl
  · change execStageWindowExpiry s = _
    unfold execStageWindowExpiry
    split
    next k progress start hrun => exact (hno k progress start hrun).elim
    · rfl
  · change execMarkPulseEnd s = _
    rw [execMarkPulseEnd, hmark]
    simp only [hasRunOut_iff]
    split <;> rfl
  · change execMarkPulseEnd s = _
    rw [execMarkPulseEnd, hno]
  · intro s hpos u
    have hexec : exec .freezeRequest s = if s.ctrl.mode = .active then .next (enterFrozen u) else .next u :=
      if_neg (Nat.ne_of_gt hpos)
    exact ⟨fun hactive => hexec.trans (if_pos hactive), fun hother => hexec.trans (if_neg hother)⟩
  · exact if_pos hno
end

section
/-! PROOFS. O47 to O51: STATUS, the modes, the Source Table, the rules, the counters and the settings. -/

namespace Sys2Proof.Machine

set_option Elab.async false

/-! ## Codes of one byte -/

theorem one_lt_toNat_iff (b : Byte) : 1 < b.toNat ↔ b ≠ 0 ∧ b ≠ 1 := by
  rw [← BitVec.toNat_inj.ne, ← BitVec.toNat_inj.ne]
  simp only [BitVec.ofNat_eq_ofNat, BitVec.toNat_ofNat]
  omega

/-- A byte that codes one of two values. -/
theorem twoCodes {α : Type} (b : Byte) (x y : α) : (if b = 0x00 then some x else if b = 0x01 then some y else none) =
    if 1 < b.toNat then none else some (if b = 0 then x else y) := by
  simp only [one_lt_toNat_iff]
  split_ifs <;> simp_all

theorem flagOf_eq (b : Byte) : flagOf b = if 1 < b.toNat then none else some (decide (b = 1)) := by
  rw [flagOf, twoCodes]
  refine if_ctx_congr Iff.rfl (fun _ => rfl) fun h => congrArg some ?_
  rw [one_lt_toNat_iff, not_and_or, not_not, not_not] at h
  rcases h with h | h <;> rw [h] <;> decide

theorem windowModeOf_eq (b : Byte) : windowModeOf b = if 1 < b.toNat then none else some (if b = 0 then .overlap else .inside) :=
  twoCodes b _ _

theorem depthOf_eq (b : Byte) : depthOf b = if 1 < b.toNat then none else some (if b = 0 then .headerOnly else .withData) :=
  twoCodes b _ _

theorem modeOf_modeByte (m : Mode) : modeOf (modeByte m) = some m := by cases m <;> rfl

theorem modeOf_eq_none {code : Byte} (h : 2 < code.toNat) : modeOf code = none := by
  have hne : ∀ c : Byte, c.toNat ≤ 2 → code ≠ c := fun c hc heq => by rw [heq] at h; omega
  rw [modeOf, if_neg (hne _ (by decide)), if_neg (hne _ (by decide)), if_neg (hne _ (by decide))]

theorem conditionOf_isSome {b : Byte} (h : b.toNat ≤ 9) : (conditionOf b).isSome = true := by
  revert b
  decide

/-! ## The Source Table -/

theorem listedElsewhere_iff (i : Nat) (src : SourceId) (s : State) : listedElsewhere i src s = true ↔
    ∃ j, j < 16 ∧ j ≠ i ∧ (sourceAt s j).valid = true ∧ (sourceAt s j).sourceId = src := by
  simp [listedElsewhere, and_assoc]

/-! ## Rule definitions -/

/-- What R69 asks of the Compare bytes. -/
def CompareAccepted (p : RuleParams) : Prop :=
  p.compare ≠ 0 → (p.compareWidth = 1 ∨ p.compareWidth = 2 ∨ p.compareWidth = 4) ∧ p.compareOffset.toNat ≤ 63 ∧
    p.compareOffset.toNat + p.compareWidth.toNat ≤ 64 ∧ p.condition.toNat ≤ 9

/-- The Compare that the parameters spell. -/
def spelledCompare (p : RuleParams) : Option Compare :=
  if p.compare = 0 then none else (conditionOf p.condition).map fun cond =>
    { present := p.compare, offset := p.compareOffset, width := p.compareWidth, fieldMask := p.fieldMask, operand := p.operand,
      condition := cond }

theorem compareOf_eq_some_iff (p : RuleParams) (cmp : Option Compare) :
    compareOf p = some cmp ↔ CompareAccepted p ∧ cmp = spelledCompare p := by
  unfold compareOf CompareAccepted spelledCompare
  by_cases habsent : p.compare = 0
  · rw [if_pos habsent, if_pos habsent]
    exact ⟨fun h => ⟨fun hp => (hp habsent).elim, (Option.some.inj h).symm⟩, fun h => congrArg some h.2.symm⟩
  rw [if_neg habsent, if_neg habsent]
  by_cases hcond : p.condition.toNat ≤ 9
  · obtain ⟨cond, hc⟩ := Option.isSome_iff_exists.mp (conditionOf_isSome hcond)
    simp only [hc, Option.map_some]
    split
    next hok => 
      exact ⟨fun h => ⟨fun _ => ⟨hok.1, hok.2.1, hok.2.2, hcond⟩, (Option.some.inj h).symm⟩, fun h => congrArg some h.2.symm⟩
    next hok => exact ⟨nofun, fun h => (hok ⟨(h.1 habsent).1, (h.1 habsent).2.1, (h.1 habsent).2.2.1⟩).elim⟩
  · rw [conditionOf_eq_none (Nat.lt_of_not_le hcond)]
    exact ⟨nofun, fun h => (hcond (h.1 habsent).2.2.2).elim⟩

/-- What R69 asks of the parameters, the index apart. -/
def RuleAccepted (p : RuleParams) : Prop :=
  p.base.toNat ≤ p.limit.toNat ∧ p.windowMode.toNat ≤ 1 ∧ 1 ≤ p.kinds.toNat ∧ p.kinds.toNat ≤ 3 ∧ p.classes ≠ 0 ∧
    1 ≤ p.minLength.toNat ∧ p.minLength.toNat ≤ 64 ∧ p.termCount.toNat ≤ 8 ∧
    (∀ i, i < p.termCount.toNat → (p.terms.get i ⟨0, 0, 0⟩).offset.toNat ≤ 63) ∧ CompareAccepted p ∧
    p.actions.toNat ≤ 7 ∧ p.depth.toNat ≤ 1

/-- The definition that the parameters spell. -/
def spelledDef (p : RuleParams) : RuleDef :=
  { base := p.base, limit := p.limit, windowMode := if p.windowMode = 0 then .overlap else .inside, kindRd := p.kinds.getLsbD 0,
    kindWr := p.kinds.getLsbD 1, classes := p.classes, minLength := p.minLength,
    pattern := p.terms.cells.take p.termCount.toNat, compare := spelledCompare p,
    actions := ⟨p.actions.getLsbD 0, p.actions.getLsbD 1, p.actions.getLsbD 2⟩,
    depth := if p.depth = 0 then .headerOnly else .withData }

theorem terms_take_all_iff (t : Table PatternTerm 8) (n : Nat) :
    (t.cells.take n).all (fun x => x.offset.toNat ≤ 63) = true ↔ ∀ i, i < n → (t.get i ⟨0, 0, 0⟩).offset.toNat ≤ 63 := by
  rw [List.all_eq_true]
  simp only [decide_eq_true_eq]
  constructor
  · intro h i hi
    by_cases hlen : i < t.cells.length
    · rw [Table.get, List.getD_eq_getElem _ _ hlen]
      exact h _ (List.mem_take_iff_getElem.mpr ⟨i, by omega, rfl⟩)
    · rw [Table.get_of_ge _ _ _ (by rw [← t.size_eq]; omega)]
      decide
  · intro h x hx
    obtain ⟨i, hi, rfl⟩ := List.mem_take_iff_getElem.mp hx
    have hlen : i < t.cells.length := by omega
    rw [← List.getD_eq_getElem _ ⟨0, 0, 0⟩ hlen]
    exact h i (by omega)

theorem toNat_pos_iff (b : Byte) : 1 ≤ b.toNat ↔ b ≠ 0 := by
  rw [← BitVec.toNat_inj.ne]
  simp only [BitVec.ofNat_eq_ofNat, BitVec.toNat_ofNat]
  omega

theorem ruleDefOf_eq_some_iff (p : RuleParams) (d : RuleDef) : ruleDefOf p = some d ↔ RuleAccepted p ∧ d = spelledDef p := by
  unfold ruleDefOf RuleAccepted
  rw [windowModeOf_eq, depthOf_eq]
  by_cases hwm : 1 < p.windowMode.toNat
  · rw [if_pos hwm]
    simp [Nat.not_le.mpr hwm]
  by_cases hdep : 1 < p.depth.toNat
  · rw [if_pos hdep]
    simp [Nat.not_le.mpr hdep]
  rw [if_neg hwm, if_neg hdep]
  cases hcmp : compareOf p with
  | none =>
    have hno : ¬ CompareAccepted p := fun h => by
      have := (compareOf_eq_some_iff p _).mpr ⟨h, rfl⟩
      rw [hcmp] at this
      cases this
    simp [hno]
  | some cmp =>
    obtain ⟨hok, rfl⟩ := (compareOf_eq_some_iff p cmp).mp hcmp
    simp only [terms_take_all_iff, toNat_pos_iff, Nat.lt_succ_iff (n := 3), Nat.lt_succ_iff (n := 7), Nat.not_lt.mp hwm, Nat.not_lt.mp hdep,
      hok, true_and, and_true]
    constructor
    · intro h
      split at h
      next hall => exact ⟨by tauto, (Option.some.inj h).symm⟩
      · cases h
    · rintro ⟨hall, rfl⟩
      rw [if_pos (by tauto)]
      rfl

theorem guarded_iff (r : Rule) (s : State) :
    guarded r s = true ↔ s.ctrl.guardLock = true ∧ r.state = .enabled ∧ r.defn.actions.block = true := by
  simp [guarded, and_assoc]

theorem guarded_of_enabled {r : Rule} (h : r.state = .enabled) (s : State) :
    guarded r s = true ↔ r.defn.actions.block = true ∧ s.ctrl.guardLock = true := by
  simp [guarded, h, and_comm]

end Sys2Proof.Machine

open Sys2Proof Sys2Proof.Machine

/-- Settles O47. -/
theorem statusAndModeCommands : Obligations.StatusAndModeCommands := by
  refine ⟨fun tail s hr => ?_, fun code tail s hr => ⟨fun hcode => ?_, ?_⟩, fun tail s hr => ?_, rfl, rfl, rfl⟩
  · have hslot : reportSlot s.port.slot = if s.port.slot = .pending then .pending else .idle := by
      cases s.port.slot <;> rfl
    rw [exec_of_runs rfl hr, ← hslot]
    rfl
  · have hreply : replyOf (.setMode code tail) s = replyWith .badParam s := by
      simp only [replyOf, setModeReply, modeOf_eq_none hcode]
    rw [exec_of_runs rfl hr, hreply]
    rfl
  · rintro m rfl
    rw [exec_of_runs rfl hr]
    simp only [replyOf, setModeReply, modeOf_modeByte, modeRefusal]
    split_ifs <;> rfl
  · rw [exec_of_runs rfl hr]
    simp only [replyOf, lockGuardsReply]
    split <;> rfl

/-- Settles O48. -/
theorem enteringModes : Obligations.EnteringModes := by
  refine ⟨fun _ => rfl, ?_⟩
  intro s released
  have hreleased : ∀ v, released v = abandonHeld v := fun _ => rfl
  have hset : ∀ v m, v.ctrl = s.ctrl → setMode m (abandonHeld v) = { released v with ctrl := { s.ctrl with mode := m } } := by
    intro v m hv
    rw [hreleased, ← hv, ← abandonHeld_ctrl v]
    rfl
  exact ⟨hset s .frozen rfl, hset _ .bypass rfl⟩

/-- Settles O49. -/
theorem sourceCommands : Obligations.SourceCommands := by
  refine ⟨?_, ?_, ?_⟩
  · intro i src cls flags tail s c elsewhere bad hr
    have hexec := exec_of_runs (c := c) rfl hr
    simp only [c, replyOf, loadSourceReply] at hexec
    refine ⟨fun hbad => ?_, fun hok hlock => ?_, fun hok hopen hlisted => ?_, fun hok hopen hfree => ?_⟩
    · rw [hexec, if_pos hbad]
      rfl
    · rw [hexec, if_neg hok, if_pos hlock]
      rfl
    · rw [hexec, if_neg hok, if_neg (by simp [hopen]), if_pos ((listedElsewhere_iff _ _ _).mpr hlisted)]
      rfl
    · rw [hexec, if_neg hok, if_neg (by simp [hopen]), if_neg fun h => hfree ((listedElsewhere_iff _ _ _).mp h)]
      rfl
  · intro i tail s c hr
    rw [exec_of_runs (c := c) rfl hr]
    simp only [c, replyOf, clearSourceReply]
    split_ifs <;> rfl
  · intro i clear tail s c e hr
    rw [exec_of_runs (c := c) rfl hr]
    simp only [c, replyOf, readSourceReply, flagOf_eq]
    by_cases hclear : 1 < clear.toNat
    · rw [if_pos hclear, if_pos (.inr hclear)]
      rfl
    · rw [if_neg hclear]
      by_cases hi : 15 < i.toNat
      · rw [if_pos (.inl hi)]
        simp only [if_pos hi]
        rfl
      · rw [if_neg (not_or.mpr ⟨hi, hclear⟩)]
        simp only [if_neg hi, decide_eq_true_eq]
        rfl

/-- Settles O50. -/
theorem ruleCommands : Obligations.RuleCommands := by
  refine ⟨?_, fun p => ⟨?_, fun h => ⟨_, (ruleDefOf_eq_some_iff p _).mpr ⟨h, rfl⟩⟩⟩, fun p d h => ((ruleDefOf_eq_some_iff p d).mp h).2,
    ?_, ?_, ?_, ?_, fun m i j hi _ => hasRule_withoutRule m i j hi⟩
  · intro p tail s c r hr
    refine ⟨fun hbad => ?_, fun d hd hi => ?_⟩
    · have hreply : replyOf c s = replyWith .badParam s := by
        simp only [c, replyOf, loadRuleReply]
        split
        · rfl
        next d hd =>
          exact if_pos (hbad.resolve_left (by simp [hd]))
      rw [exec_of_runs (c := c) rfl hr, hreply]
      rfl
    · rw [exec_of_runs (c := c) rfl hr]
      simp only [c, replyOf, loadRuleReply, hd, if_neg (Nat.not_lt.mpr hi), guarded_iff]
      split_ifs <;> rfl
  · rintro ⟨d, hd⟩
    exact ((ruleDefOf_eq_some_iff p d).mp hd).1
  · intro i tail s c r hr
    rw [exec_of_runs (c := c) rfl hr]
    simp only [c, replyOf, enableRuleReply]
    cases r.state <;> simp only [r, reduceCtorEq, if_true, if_false] <;> split_ifs <;> rfl
  · intro i tail s c r hr
    rw [exec_of_runs (c := c) rfl hr]
    simp only [c, replyOf, disableRuleReply]
    cases hst : r.state
    case enabled =>
      simp only [r, reduceCtorEq, if_false, true_and, guarded_of_enabled hst]
      split_ifs <;> rfl
    all_goals
      simp only [r, reduceCtorEq, if_true, if_false, false_and]
      split_ifs <;> rfl
  · intro i tail s c r hr
    rw [exec_of_runs (c := c) rfl hr]
    simp only [c, replyOf, clearRuleReply]
    cases hst : r.state
    case enabled =>
      simp only [r, reduceCtorEq, if_true, if_false, true_and, guarded_of_enabled hst]
      split_ifs <;> rfl
    all_goals
      simp only [r, reduceCtorEq, if_true, if_false, false_and]
      split_ifs <;> rfl
  · intro i tail s c r hr
    rw [exec_of_runs (c := c) rfl hr]
    simp only [c, replyOf, readRuleReply]
    split_ifs <;> rfl

/-- Settles O51. -/
theorem counterAndSettingCommands : Obligations.CounterAndSettingCommands := by
  refine ⟨?_, ?_, ?_, ?_⟩
  · intro i tail s c k hr
    rw [exec_of_runs (c := c) rfl hr]
    simp only [c, replyOf, readCountersReply]
    split_ifs <;> rfl
  · intro tail s c k hr
    rw [exec_of_runs (c := c) rfl hr]
    rfl
  · intro bytes tail s c hr
    rw [exec_of_runs (c := c) rfl hr]
    rfl
  · intro rt hl ms tail s c hr
    rw [exec_of_runs (c := c) rfl hr]
    simp only [c, replyOf, setTimersReply]
    split_ifs <;> rfl
end

section
/-! PROOFS. O52 to O54: the ring, the sequencer and the events. -/

namespace Sys2Proof.Machine

set_option Elab.async false

/-! ## SET_RING -/

theorem ringModeOf_eq (b : Byte) : ringModeOf b = if 1 < b.toNat then none else some (if b = 0 then .lossless else .lossy) :=
  twoCodes b _ _

/-- The byte lies in the ring area of the parameters. -/
def InRing (p : RingParams) (a : Addr) : Prop := p.base.toNat ≤ a.toNat ∧ a.toNat < p.base.toNat + 128 * p.slots.toNat

/-- The first check of R123 refuses the parameters. -/
def RingRefused (p : RingParams) : Prop :=
  p.base.toNat % 128 ≠ 0 ∨ p.slots.toNat ∉ [16, 32, 64, 128, 256, 512, 1024, 2048, 4096] ∨
    2 ^ 32 < p.base.toNat + 128 * p.slots.toNat ∨ p.producerAddr.toNat % 4 ≠ 0 ∨ p.consumerAddr.toNat % 4 ≠ 0 ∨
    p.producerAddr = p.consumerAddr ∨ InRing p p.producerAddr ∨ InRing p p.consumerAddr ∨ 1 < p.mode.toNat ∨ 1 < p.guard.toNat

/-- The configuration that the parameters spell. -/
def spelledRing (p : RingParams) : RingConfig :=
  { base := p.base, slots := p.slots.toNat, producerAddr := p.producerAddr, consumerAddr := p.consumerAddr,
    mode := if p.mode = 0 then .lossless else .lossy, guard := p.guard = 1, state := .pending }

theorem wordInRing_eq_false_iff (p : RingParams) (a : Addr) : wordInRing a p.base p.slots.toNat = false ↔ ¬ InRing p a := by
  rw [← Bool.not_eq_true, wordInRing, Bool.and_eq_true, decide_eq_true_eq, decide_eq_true_eq]
  rfl

theorem ringConfigOf_refused {p : RingParams} (h : RingRefused p) : ringConfigOf p = none := by
  unfold ringConfigOf
  rw [ringModeOf_eq, flagOf_eq]
  by_cases hmode : 1 < p.mode.toNat
  · rw [if_pos hmode]
  by_cases hguard : 1 < p.guard.toNat
  · rw [if_pos hguard]
    split <;> trivial
  rw [if_neg hmode, if_neg hguard]
  refine if_neg fun ⟨hbase, hslots, hfits, hprod, hcons, hne, hpin, hcin⟩ => ?_
  rw [wordInRing_eq_false_iff] at hpin hcin
  have hfits' : ¬ 2 ^ 32 < p.base.toNat + 128 * p.slots.toNat := Nat.not_lt.mpr hfits
  unfold RingRefused at h
  have hbase' : p.base.toNat % 128 = 0 := hbase
  have hslots' : p.slots.toNat ∈ [16, 32, 64, 128, 256, 512, 1024, 2048, 4096] := hslots
  tauto

theorem ringConfigOf_accepted {p : RingParams} (h : ¬ RingRefused p) : ringConfigOf p = some (spelledRing p) := by
  simp only [RingRefused, not_or, not_not] at h
  obtain ⟨hbase, hslots, hfits, hprod, hcons, hne, hpin, hcin, hmode, hguard⟩ := h
  unfold ringConfigOf
  rw [ringModeOf_eq, flagOf_eq, if_neg hmode, if_neg hguard]
  exact if_pos ⟨hbase, hslots, Nat.not_lt.mp hfits, hprod, hcons, hne, (wordInRing_eq_false_iff _ _).mpr hpin,
    (wordInRing_eq_false_iff _ _).mpr hcin⟩

theorem ringBusy_iff (s : State) : ringBusy s = true ↔
    s.port.slot = .pending ∨ s.ring.queue ≠ [] ∨ waitingRecords s ≠ 0 ∨ s.ring.writer ≠ .idle := by
  simp [ringBusy, or_assoc, Nat.pos_iff_ne_zero]

theorem le32_zero : le32 ((0 : BitVec 16).setWidth 32) = [0, 0, 0, 0] := by decide

theorem loadRing_spelled (p : RingParams) (s : State) : loadRing (spelledRing p) s = { s with
    ring := { s.ring with
      config := spelledRing p
      p := 0, c := 0, overrun := false, overrunSeen := false
      writer := .producer (ownWrite p.producerAddr [0, 0, 0, 0] s) true }
    port := { s.port with slot := .pending } } := by
  rw [← le32_zero]
  rfl

/-! ## The sequencer's parameters -/

theorem onExpiryOf_eq (b : Byte) : onExpiryOf b = if 1 < b.toNat then none else some (if b = 0 then .restart else .stop) :=
  twoCodes b _ _

theorem stageOf_eq (m : RuleSet) (n : BitVec 16) (w : BitVec 32) (x : Byte) : stageOf m n w x =
    if m = 0 ∨ n = 0 ∨ 16777215 < w.toNat ∨ 1 < x.toNat then none
    else some { rules := m, count := n, window := w, onExpiry := if x = 0 then .restart else .stop } := by
  rw [stageOf, onExpiryOf_eq]
  by_cases hx : 1 < x.toNat
  · rw [if_pos hx, if_pos (.inr (.inr (.inr hx)))]
  · rw [if_neg hx]
    dsimp only
    rw [← ite_not]
    refine if_congr ?_ rfl rfl
    simp only [hx, or_false, not_and_or, not_not, not_le, ne_eq]

theorem settingsOf_eq (n : Byte) (m : RuleSet) (k : BitVec 16) (a : Byte) : settingsOf n m k a =
    if n = 0 ∨ 4 < n.toNat ∨ 255 < k.toNat ∨ 3 < a.toNat then none
    else some { stagesInUse := n.toNat, abortRules := m, postCount := k.toNat, freeze := a.getLsbD 0, mark := a.getLsbD 1 } := by
  rw [settingsOf, ← ite_not]
  refine if_congr ?_ rfl rfl
  have hactions : ¬ a.toNat < 4 ↔ 3 < a.toNat := by omega
  simp only [not_and_or, not_not, not_le, ne_eq, hactions]

theorem stageMissing_iff (q : Sequencer) : stageMissing q = true ↔ ∃ k, k < q.settings.stagesInUse ∧ (stageAt q k).rules = 0 := by
  simp [stageMissing]

theorem seqBusy_iff (q : SeqState) : seqBusy q = true ↔ (∃ k progress ws, q = .run k progress ws) ∨ ∃ n, q = .post n := by
  cases q <;> simp [seqBusy]

theorem be16_zero : be16 0 = [0, 0] := by decide

theorem snapshotBytes_some (x : Snapshot) : snapshotBytes (some x) =
    [0x01, x.resetCount] ++ be32 x.record.seq ++ be32 x.record.time ++ be32 x.record.address ++ be32 x.record.matchSet ++
      [x.record.source.setWidth 8, x.record.cls.setWidth 8, x.record.tag.setWidth 8,
       if x.record.kind = .rd then 0x01 else 0x02, bitsByte x.record.attr.u x.record.attr.g false, x.record.length,
       outcomeByte x.record.outcome, bitsByte x.record.fire x.record.post x.record.held] ++
      be16 x.record.latency ++ be16 x.record.heldTicks ++ [x.record.dataCount] ++
      x.record.data.take 32 ++ List.replicate (32 - x.record.data.length) 0x00 := by
  have hkind : kindByte x.record.kind = if x.record.kind = .rd then 0x01 else 0x02 := by cases x.record.kind <;> rfl
  simp only [snapshotBytes, recordMiddle, padTo, hkind, List.append_assoc]

/-! ## Events -/

theorem getElem?_eventIndex (src : EventSource) : allSources[eventIndex src]? = some src := by cases src <;> rfl

theorem eventIndex_getElem {j : Nat} (hj : j < allSources.length) : eventIndex allSources[j] = j :=
  (by decide : ∀ i : Fin 11, eventIndex (allSources[i.val]'i.isLt) = i) ⟨j, hj⟩

/-- The source that is able and comes first in source order is the one selected. -/
theorem selectEvent_eq_some {e : EventController} {src : EventSource} (hsrc : takeable e src = true)
    (hfirst : ∀ x, takeable e x = true → eventIndex src ≤ eventIndex x) : selectEvent e = some src := by
  have hlen : allSources.length = 11 := rfl
  refine List.find?_eq_some_iff_getElem.mpr ⟨hsrc, eventIndex src, ?_, ?_, fun j hj => ?_⟩
  · rw [hlen]
    exact eventIndex_lt src
  · exact Option.some.inj ((List.getElem?_eq_getElem _).symm.trans (getElem?_eventIndex src))
  · rw [Bool.not_eq_true', ← Bool.not_eq_true]
    intro hable
    have hle := hfirst _ hable
    rw [eventIndex_getElem] at hle
    exact Nat.not_le.mpr hj hle

theorem selectEvent_eq_none {e : EventController} (h : ∀ x, ¬ takeable e x = true) : selectEvent e = none :=
  List.find?_eq_none.mpr fun x _ => h x

theorem takeable_iff (e : EventController) (x : EventSource) : takeable e x = true ↔
    (eventRecord e x).pending = true ∧ e.levelEnable.getLsbD (eventLevel x) = true := Bool.and_eq_true_iff

theorem takeSource_inService (src : EventSource) (e : EventController) (l : Nat) :
    (takeSource src e).inService.getLsbD l = (e.inService.getLsbD l || l == eventLevel src) := by
  have hlevel := eventLevel_le src
  rw [takeSource, BitVec.getLsbD_or, BitVec.getLsbD_twoPow, decide_eq_true (by omega), Bool.true_and]
  refine congrArg _ (Bool.eq_iff_iff.mpr ?_)
  rw [decide_eq_true_iff, beq_iff_eq, eq_comm]

theorem eventLevel_mono (x y : EventSource) : eventIndex x ≤ eventIndex y → eventLevel x ≤ eventLevel y := by
  cases x <;> cases y <;> decide

theorem threshold_eq {e : EventController} {level : Nat} (hl : level < 4) (hset : e.inService.getLsbD level = true)
    (hmin : ∀ l, l < level → e.inService.getLsbD l = false) : threshold e = level := by
  refine le_antisymm ?_ ?_
  · by_contra hlt
    exact absurd ((lt_threshold_iff e (Nat.le_of_lt_succ hl)).mp (Nat.lt_of_not_le hlt) level hset) (Nat.lt_irrefl _)
  · match level with
    | 0 => exact Nat.zero_le _
    | n + 1 =>
      refine (lt_threshold_iff e (by omega)).mpr fun l hl => ?_
      by_contra hle
      exact Bool.false_ne_true ((hmin l (by omega)).symm.trans hl)

/-- The four levels, the lowest one last. -/
def levels (b0 b1 b2 b3 : Bool) : BitVec 4 := BitVec.ofBool b3 ++ BitVec.ofBool b2 ++ BitVec.ofBool b1 ++ BitVec.ofBool b0

theorem getLsbD_levels (b0 b1 b2 b3 : Bool) : (levels b0 b1 b2 b3).getLsbD 0 = b0 ∧ (levels b0 b1 b2 b3).getLsbD 1 = b1 ∧
    (levels b0 b1 b2 b3).getLsbD 2 = b2 ∧ (levels b0 b1 b2 b3).getLsbD 3 = b3 := by
  cases b0 <;> cases b1 <;> cases b2 <;> cases b3 <;> decide

theorem eventEnableOf_refused {l0 l1 l2 l3 ge : Byte}
    (h : 1 < l0.toNat ∨ 1 < l1.toNat ∨ 1 < l2.toNat ∨ 1 < l3.toNat ∨ 1 < ge.toNat) : eventEnableOf l0 l1 l2 l3 ge = none := by
  unfold eventEnableOf
  simp only [flagOf_eq]
  split
  next h0 h1 h2 h3 hg =>
    have accepted : ∀ {b : Byte} {x : Bool}, (if 1 < b.toNat then none else some (decide (b = 1))) = some x → ¬ 1 < b.toNat := by
      intro b x hb hlt
      rw [if_pos hlt] at hb
      cases hb
    rcases h with h | h | h | h | h
    · exact (accepted h0 h).elim
    · exact (accepted h1 h).elim
    · exact (accepted h2 h).elim
    · exact (accepted h3 h).elim
    · exact (accepted hg h).elim
  · rfl

theorem eventEnableOf_accepted {l0 l1 l2 l3 ge : Byte} (h0 : l0.toNat ≤ 1) (h1 : l1.toNat ≤ 1) (h2 : l2.toNat ≤ 1) (h3 : l3.toNat ≤ 1)
    (hg : ge.toNat ≤ 1) : eventEnableOf l0 l1 l2 l3 ge = some (levels (l0 == 1) (l1 == 1) (l2 == 1) (l3 == 1), decide (ge = 1)) := by
  unfold eventEnableOf
  rw [flagOf_eq, flagOf_eq, flagOf_eq, flagOf_eq, flagOf_eq, if_neg (Nat.not_lt.mpr h0), if_neg (Nat.not_lt.mpr h1),
    if_neg (Nat.not_lt.mpr h2), if_neg (Nat.not_lt.mpr h3), if_neg (Nat.not_lt.mpr hg)]
  rfl

end Sys2Proof.Machine

open Sys2Proof Sys2Proof.Machine

/-- Settles O52. -/
theorem ringCommands : Obligations.RingCommands := by
  refine ⟨?_, ?_⟩
  · intro p tail s c inRing bad inUse hr
    have hexec := exec_of_runs (c := c) rfl hr
    simp only [c, replyOf, setRingReply] at hexec
    refine ⟨fun hbad => ?_, fun hok hmode => ?_, fun hok hmode hbusy => ?_, fun hok hmode hfree => ?_⟩
    · rw [hexec, ringConfigOf_refused hbad]
      rfl
    · rw [hexec, ringConfigOf_accepted hok]
      simp only [if_pos hmode]
      rfl
    · rw [hexec, ringConfigOf_accepted hok]
      simp only [if_neg (not_not.mpr hmode), if_pos ((ringBusy_iff s).mpr hbusy)]
      rfl
    · rw [hexec, ringConfigOf_accepted hok]
      simp only [if_neg (not_not.mpr hmode), if_neg fun h => hfree ((ringBusy_iff s).mp h), loadRing_spelled]
      rfl
  · intro tail s c hr
    rw [exec_of_runs (c := c) rfl hr]
    rfl

/-- Settles O53. -/
theorem sequencerCommands : Obligations.SequencerCommands := by
  refine ⟨?_, ?_, ?_, seqBusy_iff, fun tail s hr => ?_, fun tail s hr => ?_, fun tail s hr => ?_, fun tail s hr => ?_⟩
  · intro i m n w x tail s c hr
    rw [exec_of_runs (c := c) rfl hr]
    simp only [c, replyOf, loadStageReply, stageOf_eq]
    by_cases hbad : m = 0 ∨ n = 0 ∨ 16777215 < w.toNat ∨ 1 < x.toNat
    · rw [if_pos hbad, if_pos (.inr hbad)]
      rfl
    · rw [if_neg hbad]
      simp only [hbad, or_false]
      split_ifs <;> rfl
  · intro n m k a tail s c hr
    rw [exec_of_runs (c := c) rfl hr]
    simp only [c, replyOf, setSequencerReply, settingsOf_eq]
    by_cases hbad : n = 0 ∨ 4 < n.toNat ∨ 255 < k.toNat ∨ 3 < a.toNat
    · rw [if_pos hbad, if_pos hbad]
      rfl
    · rw [if_neg hbad, if_neg hbad]
      dsimp only
      split_ifs <;> rfl
  · intro tail s c missing hr
    have hexec := exec_of_runs (c := c) rfl hr
    simp only [c, replyOf, seqStartReply] at hexec
    refine ⟨fun hbusy => ?_, fun hfree hmiss => ?_, fun hfree hall => ?_⟩
    · rw [hexec, if_pos hbusy]
      rfl
    · rw [hexec, if_neg (by simp [hfree]), if_pos ((stageMissing_iff _).mpr hmiss)]
      rfl
    · rw [hexec, if_neg (by simp [hfree]), if_neg fun h => hall ((stageMissing_iff _).mp h)]
      rfl
  · rw [exec_of_runs rfl hr]
    rfl
  · rw [exec_of_runs rfl hr]
    simp only [replyOf, seqStatusReply]
    cases s.seqr.state <;> simp only [seqStatusBytes, be16_zero] <;> rfl
  · rw [exec_of_runs rfl hr]
    simp only [replyOf, readSnapshotReply]
    cases s.seqr.snapshot with
    | none => rfl
    | some x => rw [snapshotBytes_some]
  · rw [exec_of_runs rfl hr]
    rfl

/-- Settles O54. -/
theorem eventCommands : Obligations.EventCommands := by
  refine ⟨?_, eventLevel_mono, ?_, ?_⟩
  · intro src tail s c able hr
    have hexec := exec_of_runs (c := c) rfl hr
    simp only [c, replyOf, takeEventReply] at hexec
    refine ⟨fun hsrc hfirst => ⟨_, hexec, ?_⟩, fun hno => ?_⟩
    · have hselect : selectEvent s.events = some src :=
        selectEvent_eq_some ((takeable_iff _ _).mpr hsrc) fun x hx => hfirst x ((takeable_iff _ _).mp hx)
      rw [hselect]
      refine ⟨rfl, ?_, fun x hne => ?_, fun l _ => takeSource_inService src s.events l⟩
      · exact (eventRecord_set rfl src).trans (if_pos rfl)
      · exact (eventRecord_set rfl x).trans (if_neg hne.symm)
    · rw [hexec, selectEvent_eq_none fun x hx => hno x ((takeable_iff _ _).mp hx)]
      rfl
  · intro level tail s c hr
    have hexec := exec_of_runs (c := c) rfl hr
    simp only [c, replyOf, endEventReply] at hexec
    refine ⟨fun hl hset hmin => ?_, fun hzero => ?_⟩
    · have hne : s.events.inService ≠ 0 := fun h => by simp [h] at hset
      rw [hexec, if_neg hne, endService, threshold_eq hl hset hmin]
    · rw [hexec, if_pos hzero]
      rfl
  · intro l0 l1 l2 l3 ge tail s c hr
    have hexec := exec_of_runs (c := c) rfl hr
    simp only [c, replyOf, setEventEnableReply] at hexec
    refine ⟨fun hbad => ?_, fun h0 h1 h2 h3 hg => ⟨_, hexec, ?_⟩⟩
    · rw [hexec, eventEnableOf_refused hbad]
      rfl
    · rw [eventEnableOf_accepted h0 h1 h2 h3 hg]
      exact ⟨rfl, getLsbD_levels _ _ _ _⟩
end

section
/-! PROOFS. O44, O46: broken frames and the edges of the serial link. -/

namespace Sys2Proof.Machine

set_option Elab.async false

/-! ## Bits and bytes of a frame -/

@[simp] theorem byteBits_length (b : Byte) : (byteBits b).length = 8 := rfl

theorem bytesBits_length (bs : List Byte) : (bytesBits bs).length = 8 * bs.length := by
  induction bs with
  | nil => rfl
  | cons b bs ih =>
    rw [bytesBits, List.flatMap_cons, List.length_append, byteBits_length, List.length_cons, ← bytesBits, ih]
    omega

theorem bytesBits_cons (b : Byte) (bs : List Byte) : bytesBits (b :: bs) = byteBits b ++ bytesBits bs := rfl

theorem frameBits_length (cmd : MgmtCommand) (params : List Byte) (check : Byte) :
    (frameBits cmd params check).length = 8 * (1 + params.length + 1) := by
  rw [frameBits, bytesBits_length]
  simp [Nat.add_comm]

theorem byteOfBits_take_frameBits (cmd : MgmtCommand) (params : List Byte) (check : Byte) :
    byteOfBits ((frameBits cmd params check).take 8) = codeOf cmd := by
  rw [frameBits, List.cons_append, bytesBits_cons, List.take_left' (byteBits_length _), byteOfBits_byteBits]

theorem commandOf_codeOf (cmd : MgmtCommand) : commandOf (codeOf cmd) = some cmd := by cases cmd <;> rfl

theorem commandOf_eq_some_iff (code : Byte) (cmd : MgmtCommand) : commandOf code = some cmd ↔ codeOf cmd = code := by
  constructor
  · intro h
    simpa using List.find?_some h
  · rintro rfl
    exact commandOf_codeOf cmd

theorem commandOf_eq_none_iff (code : Byte) : commandOf code = none ↔ ∀ cmd, codeOf cmd ≠ code := by
  rw [Option.eq_none_iff_forall_ne_some]
  exact forall_congr' fun cmd => not_congr (commandOf_eq_some_iff code cmd)

theorem knownCode_iff (code : Byte) : knownCode code = true ↔ ∃ cmd, codeOf cmd = code := by
  have hall : ∀ cmd : MgmtCommand, cmd ∈ allCommands := fun cmd => by cases cmd <;> decide
  simp [knownCode, hall]

/-- R175: a frame is incomplete until its command byte and then its fixed number of bytes stand. -/
theorem reception_incomplete_iff (bits : List Bool) : reception bits = .incomplete ↔ bits.length < 8 ∨
    ∃ cmd, codeOf cmd = byteOfBits (bits.take 8) ∧ bits.length < 8 * (1 + paramCount cmd + 1) := by
  unfold reception
  by_cases hshort : bits.length < 8
  · rw [if_pos hshort]
    exact ⟨fun _ => .inl hshort, fun _ => rfl⟩
  rw [if_neg hshort]
  cases hcmd : commandOf (byteOfBits (bits.take 8)) with
  | none =>
    refine ⟨nofun, ?_⟩
    rintro (h | ⟨cmd, hcode, -⟩)
    · exact (hshort h).elim
    · exact ((commandOf_eq_none_iff _).mp hcmd cmd hcode).elim
  | some cmd =>
    have hcode := (commandOf_eq_some_iff _ _).mp hcmd
    have hlen : 8 * (paramCount cmd + 2) = 8 * (1 + paramCount cmd + 1) := by omega
    dsimp only
    rw [hlen]
    constructor
    · intro h
      split at h
      next hlt => exact .inr ⟨cmd, hcode, hlt⟩
      · cases h
    · rintro (h | ⟨cmd', hcode', hlt⟩)
      · exact (hshort h).elim
      · have hsame : cmd = cmd' :=
          Option.some.inj ((commandOf_codeOf cmd).symm.trans ((congrArg commandOf (hcode.trans hcode'.symm)).trans (commandOf_codeOf cmd')))
        rw [if_pos (hsame ▸ hlt)]

/-- What is incomplete was so at every bit before. -/
theorem reception_of_append {got bits : List Bool} (h : reception (got ++ bits) = .incomplete) : reception got = .incomplete := by
  rw [reception_incomplete_iff] at h ⊢
  by_cases hshort : got.length < 8
  · exact .inl hshort
  rw [List.length_append, List.take_append_of_le_length (Nat.le_of_not_lt hshort)] at h
  rcases h with h | ⟨cmd, hcode, hlt⟩
  · omega
  · exact .inr ⟨cmd, hcode, by omega⟩

/-- The bits of a known command are incomplete up to its check byte. -/
theorem reception_take_frameBits {cmd : MgmtCommand} {params : List Byte} {check : Byte} {n : Nat} (hp : params.length = paramCount cmd)
    (hn : n < (frameBits cmd params check).length) : reception ((frameBits cmd params check).take n) = .incomplete := by
  rw [reception_incomplete_iff]
  by_cases hshort : n < 8
  · exact .inl (by rw [List.length_take]; omega)
  · refine .inr ⟨cmd, ?_, ?_⟩
    · rw [List.take_take, Nat.min_eq_left (Nat.le_of_not_lt hshort), byteOfBits_take_frameBits]
    · rw [List.length_take, ← hp, ← frameBits_length cmd params check]
      omega

theorem be16_length (x : BitVec 16) : (be16 x).length = 2 := rfl
theorem be32_length (x : BitVec 32) : (be32 x).length = 4 := rfl

theorem flatMap_termBytes_length (l : List PatternTerm) : (l.flatMap termBytes).length = 3 * l.length := by
  induction l with
  | nil => rfl
  | cons t l ih =>
    rw [List.flatMap_cons, List.length_append, ih, List.length_cons, termBytes]
    simp only [List.length_cons, List.length_nil]
    omega

/-- Every command carries its fixed number of parameter bytes (12.3). -/
theorem params_length {c : Instr} {cmd : MgmtCommand} {params : List Byte} {tail : FrameTail}
    (hf : frameOf c = some (cmd, params, tail)) : params.length = paramCount cmd := by
  cases c with
  | loadRule p t =>
    cases hf
    simp only [ruleParamBytes, List.length_append, List.length_cons, List.length_nil, be32_length, flatMap_termBytes_length,
      p.terms.size_eq, paramCount]
  | setFill b t =>
    cases hf
    exact b.size_eq
  | _ => cases hf <;> rfl

/-! ## What the host reads of an answer -/

/-- The bits driven at the falling edges of SCK: those of the answer, and then the fill byte's, over and over. -/
def driven : List Bool → Byte → Nat → List Bool
  | _, _, 0 => []
  | b :: out, fill, n + 1 => b :: driven out fill n
  | [], fill, n + 1 => fill.getLsbD 7 :: driven (byteBits fill).tail fill n

theorem driven_eq {n m : Nat} (hm : n ≤ m) (out : List Bool) (fill : Byte) :
    driven out fill n = (out ++ bytesBits (List.replicate m fill)).take n := by
  induction n generalizing out m with
  | zero => cases out <;> rfl
  | succ n ih =>
    cases out with
    | cons b out => rw [driven, ih (by omega : n ≤ m), List.cons_append, List.take_succ_cons]
    | nil =>
      obtain ⟨k, rfl⟩ : ∃ k, m = k + 1 := ⟨m - 1, by omega⟩
      rw [driven, ih (by omega : n ≤ k), List.nil_append, List.replicate_succ, bytesBits_cons]
      rfl

theorem clockOut_cons (b : Bool) (sdi : List Bool) : clockOut (b :: sdi) = .sckFall :: .sckRise b :: clockOut sdi := rfl

/-- The link while an answer is driven, SCK being high. -/
def answering (out : List Bool) (fill : Byte) (sdo : Option Bool) (read : List Bool) : SerialLink :=
  { selLow := true, sckHigh := true, frame := .sending out fill, sdo := sdo, read := read }

/-- One bit read: SDO moves at the falling edge and is sampled at the rising one. -/
theorem portEdges_readBit {p : MgmtPort} {out : List Bool} {fill : Byte} {sdo : Option Bool} {read : List Bool}
    (hl : p.link = answering out fill sdo read) (b : Bool) (es : List PortEdge) : ∃ out' d, driven out fill 1 = [d] ∧
      (∀ n, driven out fill (n + 1) = d :: driven out' fill n) ∧
      portEdges (.sckFall :: .sckRise b :: es) p = portEdges es { p with link := answering out' fill (some d) (read ++ [d]) } := by
  obtain ⟨slot, fault, aborted, last, count, link, rec⟩ := p
  cases hl
  cases out with
  | cons d out => exact ⟨out, d, rfl, fun _ => rfl, rfl⟩
  | nil => exact ⟨(byteBits fill).tail, fill.getLsbD 7, rfl, fun _ => rfl, rfl⟩

theorem portEdges_clockOut (sdi : List Bool) (es : List PortEdge) {p : MgmtPort} {out : List Bool} {fill : Byte} {sdo : Option Bool}
    {read : List Bool} (hl : p.link = answering out fill sdo read) : ∃ out' sdo',
      portEdges (clockOut sdi ++ es) p = portEdges es { p with link := answering out' fill sdo' (read ++ driven out fill sdi.length) } := by
  induction sdi generalizing p out sdo read with
  | nil =>
    refine ⟨out, sdo, ?_⟩
    have hnone : driven out fill 0 = [] := by cases out <;> rfl
    rw [List.length_nil, hnone, List.append_nil, ← hl]
    rfl
  | cons b sdi ih =>
    obtain ⟨out', d, -, hd, hstep⟩ := portEdges_readBit hl b (clockOut sdi ++ es)
    obtain ⟨out'', sdo', hrest⟩ := ih (p := { p with link := answering out' fill (some d) (read ++ [d]) }) rfl
    refine ⟨out'', sdo', ?_⟩
    rw [clockOut_cons, List.cons_append, List.cons_append, hstep, hrest, List.length_cons, hd, List.append_assoc]
    rfl

/-- The answer read until SEL_n rises: what the host read goes on record. -/
theorem portEdges_clockOut_selRise (sdi : List Bool) {p : MgmtPort} {out : List Bool} {fill : Byte} {sdo : Option Bool} {read : List Bool}
    (hl : p.link = answering out fill sdo read) (hread : read ≠ []) :
    portEdges (clockOut sdi ++ [.selRise]) p = { p with
      link := { selLow := false, sckHigh := true, frame := .absent, sdo := none, read := [] }
      sdo := p.sdo ++ [read ++ driven out fill sdi.length] } := by
  obtain ⟨out', sdo', h⟩ := portEdges_clockOut sdi [.selRise] hl
  have hne : read ++ driven out fill sdi.length ≠ [] := List.append_ne_nil_of_left_ne_nil hread _
  rw [h]
  change ({ p with
    link := { selLow := false, sckHigh := true, frame := .absent, sdo := none, read := [] }
    sdo := if read ++ driven out fill sdi.length = [] then p.sdo else p.sdo ++ [read ++ driven out fill sdi.length] } : MgmtPort) = _
  rw [if_neg hne]

/-! ## Frames that are not executed -/

/-- The port once SEL_n has risen on a frame cut short: the 0 driven for each of its bits goes on record. -/
theorem portEdges_abort (bits : List Bool) (after : List PortEdge) (p : MgmtPort) :
    portEdges (.sckFall :: .selRise :: after) (received bits p) = portEdges after { p with
      frameFault := if bits = [] then p.frameFault else satInc p.frameFault
      lastFrameAborted := if bits = [] then p.lastFrameAborted else true
      link := { selLow := false, sckHigh := false, frame := .absent, sdo := none, read := [] }
      sdo := if bits = [] then recordedFrames p else recordedFrames p ++ [List.replicate bits.length false] } := by
  rw [received_eq]
  cases bits <;> rfl

theorem exec_frameAbort {bits : List Bool} {s : State} (hready : portReady bits s = true) (hbits : reception bits = .incomplete)
    (after : List PortEdge) : exec (.frameAbort bits after) s =
      .next { s with port := portEdges (.sckFall :: .selRise :: after) (received bits s.port) } := by
  rw [portReady_eq_takesFrame] at hready
  change execFrameAbort bits after s = _
  rw [execFrameAbort, if_pos hbits, if_pos hready]

theorem exec_badCommand {code : Byte} {s : State} (hready : portReady (byteBits code) s = true) (hcode : ∀ cmd, codeOf cmd ≠ code)
    (after : List PortEdge) : exec (.badCommand code after) s =
      .next { s with port := portEdges after (startSending [] 0x03 (received (byteBits code) s.port)) } := by
  rw [portReady_eq_takesFrame] at hready
  change execBadCommand code after s = _
  rw [execBadCommand, if_neg fun h => by obtain ⟨cmd, hcmd⟩ := (knownCode_iff code).mp h; exact hcode cmd hcmd, if_pos hready]
  rfl

theorem exec_of_badCheck {c : Instr} {cmd : MgmtCommand} {params : List Byte} {tail : FrameTail} {s : State}
    (hf : frameOf c = some (cmd, params, tail)) (hready : portReady (frameBits cmd params tail.check) s = true)
    (hcheck : crc8 (codeOf cmd :: params) ≠ tail.check) : exec c s = .next (replied c .badCheck [] s) := by
  rw [portReady_eq_takesFrame] at hready
  rw [exec_eq_runFrame hf, runFrame_badCheck _ _ _ _ _ hready (beq_false_of_ne hcheck), replied_eq_answer hf]
  rfl

theorem exec_of_not_ready {c : Instr} {cmd : MgmtCommand} {params : List Byte} {tail : FrameTail} {s : State}
    (hf : frameOf c = some (cmd, params, tail)) (hready : portReady (frameBits cmd params tail.check) s = false) :
    exec c s = .next s := by
  rw [portReady_eq_takesFrame] at hready
  rw [exec_eq_runFrame hf, runFrame_notTaken _ _ _ _ _ hready]

/-! ## A frame begun by edges -/

theorem clockIn_cons (b : Bool) (bits : List Bool) : clockIn (b :: bits) = .sckRise b :: .sckFall :: clockIn bits := rfl

/-- The link while the host sends a command, SCK being low. -/
def receivingLink (bits : List Bool) : SerialLink :=
  { selLow := true, sckHigh := false, frame := .receiving bits, sdo := some false, read := List.replicate bits.length false }

theorem portEdges_sendBit {p : MgmtPort} {got : List Bool} (hl : p.link = receivingLink got) {b : Bool}
    (hr : reception (got ++ [b]) = .incomplete) (es : List PortEdge) :
    portEdges (.sckRise b :: .sckFall :: es) p = portEdges es { p with link := receivingLink (got ++ [b]) } := by
  have hrise : completesFrame p (.sckRise b) = false := by simp [completesFrame, hl, receivingLink, hr]
  have hsampled : portEdge p (.sckRise b) = { p with link := { receivingLink (got ++ [b]) with sckHigh := true } } := by
    simp [portEdge, hl, receivingLink, sampleBit, sampled, hr, List.replicate_succ']
  rw [portEdges_cons _ _ _ hrise, hsampled]
  rfl

theorem portEdges_clockIn {bits : List Bool} {p : MgmtPort} {got : List Bool} (hl : p.link = receivingLink got)
    (hr : reception (got ++ bits) = .incomplete) : portEdges (clockIn bits) p = { p with link := receivingLink (got ++ bits) } := by
  induction bits generalizing p got with
  | nil => rw [List.append_nil, ← hl]; rfl
  | cons b bits ih =>
    rw [List.append_cons] at hr ⊢
    rw [clockIn_cons, portEdges_sendBit hl (reception_of_append hr), ih rfl hr]

/-- SEL_n falls on an idle link, and the host sends bits that make no whole command. -/
theorem portEdges_begin {bits : List Bool} {p : MgmtPort} (hl : p.link = SerialLink.idle) (hr : reception bits = .incomplete) :
    portEdges (.selFall :: clockIn bits) p = { p with link := receivingLink bits } := by
  have hopen : portEdge p .selFall = { p with link := receivingLink [] } := by
    simp [portEdge, hl, SerialLink.idle, openFrame, receivingLink]
  rw [portEdges_cons _ _ _ rfl, hopen, portEdges_clockIn (got := []) rfl hr]
  rfl

/-! ## A block's reply does not depend on the wires of the port -/

/-- `s` with another link and another record of the bits read. -/
def withWires (l : SerialLink) (rec : List (List Bool)) (s : State) : State := { s with port := { s.port with link := l, sdo := rec } }

def Reply.withWires (l : SerialLink) (rec : List (List Bool)) (r : Reply) : Reply := ⟨r.result, r.response, Machine.withWires l rec r.state⟩

section
variable (l : SerialLink) (rec : List (List Bool)) (s : State)

theorem continueRequest_withWires (next : AfterCapture) :
    continueRequest next (withWires l rec s) = withWires l rec (continueRequest next s) := by
  cases next <;> rfl

theorem abandonHeldRequest_withWires : abandonHeldRequest (withWires l rec s) = withWires l rec (abandonHeldRequest s) := by
  unfold abandonHeldRequest withWires
  dsimp only
  split
  · exact continueRequest_withWires l rec (loseRecord s) _
  · rfl

theorem abandonHeldResponse_withWires : abandonHeldResponse (withWires l rec s) = withWires l rec (abandonHeldResponse s) := by
  unfold abandonHeldResponse withWires
  dsimp only
  split <;> rfl

theorem abandonHeld_withWires : abandonHeld (withWires l rec s) = withWires l rec (abandonHeld s) := by
  rw [abandonHeld, abandonHeldRequest_withWires, abandonHeldResponse_withWires, abandonHeld]

theorem enterMode_withWires (m : Mode) : enterMode m (withWires l rec s) = withWires l rec (enterMode m s) := by
  cases m with
  | active => rfl
  | frozen => exact congrArg (setMode .frozen) (abandonHeld_withWires l rec s)
  | bypass => exact congrArg (setMode .bypass) (abandonHeld_withWires l rec
      (clearUses { s with ort := s.ort.map orphan, near := { s.near with head := orphanHead s.near.head } }))

variable {l rec} in
/-- A check that does not look at the wires, branch by branch. -/
theorem ite_withWires {P : Prop} [Decidable P] {a b a' b' : Reply} (ha : a' = a.withWires l rec) (hb : b' = b.withWires l rec) :
    (if P then a' else b') = (if P then a else b).withWires l rec := by
  split
  · exact ha
  · exact hb

theorem replyOf_withWires {c : Instr} {cmd : MgmtCommand} {params : List Byte} {tail : FrameTail}
    (hf : frameOf c = some (cmd, params, tail)) : replyOf c (withWires l rec s) = (replyOf c s).withWires l rec := by
  cases c with
  | setMode code t =>
    simp only [replyOf, setModeReply, enterMode_withWires]
    cases modeOf code with
    | none => rfl
    | some m =>
      have hsame : modeRefusal m (withWires l rec s) = modeRefusal m s := rfl
      dsimp only
      rw [hsame]
      cases modeRefusal m s <;> rfl
  | lockGuards t => exact ite_withWires rfl rfl
  | loadSource i src cls flags t => exact ite_withWires rfl (ite_withWires rfl (ite_withWires rfl rfl))
  | clearSource i t => exact ite_withWires rfl (ite_withWires rfl rfl)
  | readSource i clear t =>
    simp only [replyOf, readSourceReply]
    cases flagOf clear with
    | none => rfl
    | some x => exact ite_withWires rfl (by cases x <;> rfl)
  | loadRule p t =>
    simp only [replyOf, loadRuleReply]
    cases ruleDefOf p with
    | none => rfl
    | some d => exact ite_withWires rfl (ite_withWires rfl (ite_withWires rfl (ite_withWires rfl rfl)))
  | enableRule i t =>
    refine ite_withWires rfl ?_
    have hsame : ruleAt (withWires l rec s) i.toNat = ruleAt s i.toNat := rfl
    rw [hsame]
    cases (ruleAt s i.toNat).state <;> rfl
  | disableRule i t =>
    refine ite_withWires rfl ?_
    have hsame : ruleAt (withWires l rec s) i.toNat = ruleAt s i.toNat := rfl
    rw [hsame]
    cases (ruleAt s i.toNat).state with
    | enabled => exact ite_withWires rfl rfl
    | empty | disabled => rfl
  | clearRule i t =>
    refine ite_withWires rfl ?_
    have hsame : ruleAt (withWires l rec s) i.toNat = ruleAt s i.toNat := rfl
    rw [hsame]
    cases (ruleAt s i.toNat).state with
    | enabled => exact ite_withWires rfl rfl
    | empty | disabled => rfl
  | readRule i t => exact ite_withWires rfl (ite_withWires rfl rfl)
  | readCounters i t => exact ite_withWires rfl rfl
  | setRing p t =>
    simp only [replyOf, setRingReply]
    cases ringConfigOf p with
    | none => rfl
    | some cfg => exact ite_withWires rfl (ite_withWires rfl rfl)
  | setTimers rt hl ms t => exact ite_withWires rfl rfl
  | loadStage i m n w x t =>
    simp only [replyOf, loadStageReply]
    cases stageOf m n w x with
    | none => rfl
    | some x => exact ite_withWires rfl (ite_withWires rfl rfl)
  | setSequencer n m k a t =>
    simp only [replyOf, setSequencerReply]
    cases settingsOf n m k a with
    | none => rfl
    | some x => exact ite_withWires rfl rfl
  | seqStart t => exact ite_withWires rfl (ite_withWires rfl rfl)
  | takeEvent t =>
    have hsame : selectEvent (withWires l rec s).events = selectEvent s.events := rfl
    simp only [replyOf, takeEventReply, hsame]
    cases selectEvent s.events <;> rfl
  | endEvent t => exact ite_withWires rfl rfl
  | setEventEnable l0 l1 l2 l3 ge t =>
    simp only [replyOf, setEventEnableReply]
    cases eventEnableOf l0 l1 l2 l3 ge <;> rfl
  | status | readGlobals | ringStatus | setFill | seqStop | seqStatus | readSnapshot | clearSnapshot => rfl
  | _ => cases hf

end

theorem withWires_self (s : State) : withWires s.port.link s.port.sdo s = s := rfl

/-- A block's reply leaves the wires of the port as they are. -/
theorem replyOf_wires {c : Instr} {cmd : MgmtCommand} {params : List Byte} {tail : FrameTail}
    (hf : frameOf c = some (cmd, params, tail)) (s : State) :
    (replyOf c s).state.port.link = s.port.link ∧ (replyOf c s).state.port.sdo = s.port.sdo := by
  have h := replyOf_withWires s.port.link s.port.sdo s hf
  rw [withWires_self] at h
  have hport : (replyOf c s).state.port = ((replyOf c s).withWires s.port.link s.port.sdo).state.port := by rw [← h]
  rw [hport]
  exact ⟨rfl, rfl⟩

/-- A port that has received the first bits of a frame receives the rest as one that receives it all. -/
theorem received_receivingLink {p : MgmtPort} (hl : p.link = SerialLink.idle) (got bits : List Bool) :
    received bits { p with link := receivingLink got } = received bits p := by
  rw [received_eq, received_eq]
  have hrec : recordedFrames { p with link := receivingLink got } = recordedFrames p := by
    simp [recordedFrames, receivingLink, hl, SerialLink.idle]
  rw [hrec]

theorem takesFrame_up {s : State} (hup : inHardReset s = false) (bits : List Bool) : takesFrame bits s = canReceive bits s.port := by
  rw [takesFrame, hup]
  rfl

/-- A frame begun by edges and completed by its row is the frame of the row. -/
theorem exec_of_begun {c : Instr} {cmd : MgmtCommand} {params : List Byte} {tail : FrameTail} {s : State} {got : List Bool}
    (hf : frameOf c = some (cmd, params, tail)) (hup : inHardReset s = false) (hl : s.port.link = SerialLink.idle)
    (hgot : got <+: frameBits cmd params tail.check) :
    exec c { s with port := { s.port with link := receivingLink got } } = exec c s := by
  have hbegun : takesFrame (frameBits cmd params tail.check) { s with port := { s.port with link := receivingLink got } } = true := by
    refine (takesFrame_up (s := { s with port := { s.port with link := receivingLink got } }) hup _).trans ?_
    exact List.isPrefixOf_iff_prefix.mpr hgot
  have hidle : takesFrame (frameBits cmd params tail.check) s = true := by
    rw [takesFrame_up hup, canReceive, hl]
    rfl
  have hwires : ∀ r : Reply, r.state.port.link = s.port.link → answer cmd params (r.withWires (receivingLink got) r.state.port.sdo) tail =
      answer cmd params r tail := fun r hr => by
    unfold answer
    have hreceived := received_receivingLink (hr.trans hl) got (frameBits cmd params tail.check)
    exact congrArg (fun p => { r.state with port := portEdges tail.after (startSending (answerBytes cmd r.result r.response) 0xFF p) }) hreceived
  have hreply := replyOf_withWires (receivingLink got) s.port.sdo s hf
  obtain ⟨hlink, hsdo⟩ := replyOf_wires hf s
  rw [exec_eq_runFrame hf, exec_eq_runFrame hf, runFrame, runFrame, if_pos hbegun, if_pos hidle]
  refine congrArg Host.Outcome.next (if_congr Iff.rfl ?_ (hwires (replyWith .badCheck s) rfl))
  rw [← hwires (replyOf c s) hlink, hsdo, ← hreply]
  rfl

/-! ## Edges one by one -/

theorem portEdge_selRise {p : MgmtPort} (h : p.link.selLow = true) : portEdge p .selRise =
    { p with
      frameFault := (countAbort p).frameFault
      lastFrameAborted := (countAbort p).lastFrameAborted
      link := { p.link with selLow := false, frame := .absent, sdo := none, read := [] }
      sdo := if p.link.read = [] then p.sdo else p.sdo ++ [p.link.read] } := by
  obtain ⟨slot, fault, aborted, last, count, link, rec⟩ := p
  simp only [portEdge]
  rw [if_pos h]
  unfold countAbort
  dsimp only
  split <;> rfl

theorem countAbort_of_bits {p : MgmtPort} {b : Bool} {bits : List Bool} (h : p.link.frame = .receiving (b :: bits)) :
    countAbort p = { p with frameFault := satInc p.frameFault, lastFrameAborted := true } := by
  rw [countAbort, h]

theorem countAbort_of_no_bits {p : MgmtPort} (h : ∀ b bits, p.link.frame ≠ .receiving (b :: bits)) : countAbort p = p := by
  unfold countAbort
  split
  next b bits hf => exact (h b bits hf).elim
  · rfl

theorem sampleBit_absent {l : SerialLink} (h : l.frame = .absent) (b : Bool) : sampleBit b l = { l with sckHigh := true } := by
  rw [sampleBit, h]

theorem sampleBit_incomplete {l : SerialLink} {bits : List Bool} (h : l.frame = .receiving bits) {b : Bool}
    (hr : reception (bits ++ [b]) = .incomplete) :
    sampleBit b l = { l with sckHigh := true, frame := .receiving (bits ++ [b]), read := l.read ++ l.sdo.toList } := by
  rw [sampleBit, h]
  dsimp only
  rw [hr]
  rfl

theorem sampleBit_sending {l : SerialLink} {out : List Bool} {fill : Byte} (h : l.frame = .sending out fill) (b : Bool) :
    sampleBit b l = { l with sckHigh := true, read := l.read ++ l.sdo.toList } := by
  rw [sampleBit, h]
  rfl

theorem shiftOut_absent {l : SerialLink} (h : l.frame = .absent) : shiftOut l = { l with sckHigh := false } := by rw [shiftOut, h]

theorem shiftOut_receiving {l : SerialLink} {bits : List Bool} (h : l.frame = .receiving bits) :
    shiftOut l = { l with sckHigh := false, sdo := some false } := by rw [shiftOut, h]

theorem shiftOut_cons {l : SerialLink} {b : Bool} {out : List Bool} {fill : Byte} (h : l.frame = .sending (b :: out) fill) :
    shiftOut l = { l with sckHigh := false, sdo := some b, frame := .sending out fill } := by rw [shiftOut, h]

theorem shiftOut_nil {l : SerialLink} {fill : Byte} (h : l.frame = .sending [] fill) :
    shiftOut l = { l with sckHigh := false, sdo := some (fill.getLsbD 7), frame := .sending (byteBits fill).tail fill } := by
  rw [shiftOut, h]

theorem portEdge_sckRise_absent {p : MgmtPort} (h : p.link.frame = .absent) (b : Bool) :
    portEdge p (.sckRise b) = { p with link := { p.link with sckHigh := true } } := by
  obtain ⟨slot, fault, aborted, last, count, link, rec⟩ := p
  simp only [portEdge, sampleBit_absent h]
  split
  next hhigh => rw [← hhigh]
  · rfl

theorem portEdge_sckFall_absent {p : MgmtPort} (h : p.link.frame = .absent) :
    portEdge p .sckFall = { p with link := { p.link with sckHigh := false } } := by
  obtain ⟨slot, fault, aborted, last, count, link, rec⟩ := p
  simp only [portEdge, shiftOut_absent h]
  split
  · rfl
  next hlow => rw [← Bool.eq_false_iff.mpr hlow]

theorem portEdge_sckRise {p : MgmtPort} (h : p.link.sckHigh = false) (b : Bool) :
    portEdge p (.sckRise b) = { p with link := sampleBit b p.link } := if_neg (by simp [h])

theorem portEdge_sckFall {p : MgmtPort} (h : p.link.sckHigh = true) : portEdge p .sckFall = { p with link := shiftOut p.link } :=
  if_pos h

/-- In power-on and board reset the pins of SEL_n and SCK move and nothing else does. -/
theorem takeEdges_in_reset {s : State} (h : inHardReset s = true) (es : List PortEdge) : takeEdges es s =
    { s with port := { s.port with link := { s.port.link with
      selLow := (takeEdges es s).port.link.selLow, sckHigh := (takeEdges es s).port.link.sckHigh } } } := by
  obtain ⟨hframe, hsdo, hread⟩ := pinEdges_frame es s.port.link
  have hpins : es.foldl pinEdge s.port.link = { s.port.link with
      selLow := (es.foldl pinEdge s.port.link).selLow, sckHigh := (es.foldl pinEdge s.port.link).sckHigh } := by
    calc es.foldl pinEdge s.port.link = ⟨(es.foldl pinEdge s.port.link).selLow, (es.foldl pinEdge s.port.link).sckHigh,
          (es.foldl pinEdge s.port.link).frame, (es.foldl pinEdge s.port.link).sdo, (es.foldl pinEdge s.port.link).read⟩ := rfl
      _ = _ := by rw [hframe, hsdo, hread]
  have htaken : takeEdges es s = { s with port := { s.port with link := es.foldl pinEdge s.port.link } } := if_pos h
  rw [htaken]
  exact congrArg (fun l => { s with port := { s.port with link := l } }) hpins

end Sys2Proof.Machine

open Sys2Proof Sys2Proof.Machine

/-- Settles O44. -/
theorem brokenFramesExecuteNothing : Obligations.BrokenFramesExecuteNothing := by
  refine ⟨fun bits s hready hbits hlen after => ?_, fun s hready after => ?_, reception_incomplete_iff, fun code s hready hcode =>
    ⟨exec_badCommand hready hcode, fun sdi => ?_⟩, fun c cmd params tail s hf => ⟨exec_of_badCheck hf, exec_of_not_ready hf⟩,
    fun bits after s => ⟨fun hbits hready => ?_, fun hbits => ?_⟩, fun code after s => ⟨fun hunknown hready => ?_, fun hknown => ?_⟩⟩
  · have hne : bits ≠ [] := List.ne_nil_of_length_pos hlen
    rw [exec_frameAbort hready hbits, portEdges_abort, if_neg hne, if_neg hne, if_neg hne, satInc_byte]
  · rw [exec_frameAbort hready (by decide), portEdges_abort]
    rfl
  · have hlink : (startSending [] 0x03 (received (byteBits code) s.port)).link =
        answering [] 0x03 (some false) (List.replicate 8 false) := rfl
    rw [exec_badCommand hready hcode, portEdges_clockOut_selRise sdi hlink (by decide), driven_eq (Nat.le_refl _)]
    have hsdo : (startSending [] 0x03 (received (byteBits code) s.port)).sdo = recordedFrames s.port := received_sdo s.port (byteBits code)
    rw [hsdo, startSending, received_eq]
    rfl
  · rw [portReady_eq_takesFrame] at hready
    change execFrameAbort bits after s = _
    rw [execFrameAbort, if_pos hbits, if_neg (by simp [hready])]
  · exact if_neg hbits
  · rw [portReady_eq_takesFrame] at hready
    change execBadCommand code after s = _
    rw [execBadCommand, if_neg (fun h => by obtain ⟨cmd, hcmd⟩ := (knownCode_iff code).mp h; exact hunknown cmd hcmd),
      if_neg (by simp [hready])]
  · exact if_pos ((knownCode_iff code).mpr hknown)

/-- Settles O46. -/
theorem serialLinkEdges : Obligations.SerialLinkEdges := by
  refine ⟨fun p => ⟨fun hhigh => ?_, fun hlow => ⟨if_pos hlow, ?_⟩, fun hhigh => ?_, fun hf b => ⟨portEdge_sckRise_absent hf b,
      portEdge_sckFall_absent hf⟩⟩,
    fun p b hlow => ⟨fun bits hf hr => ?_, fun out fill hf => ?_⟩,
    fun p hhigh => ⟨fun bits hf => ?_, fun b out fill hf => ?_, fun fill hf => ?_⟩,
    fun bits p hl hr => portEdges_begin hl hr,
    fun c cmd params tail n s hf hpower hboard hl hn => ?_, fun es s h => takeEdges_in_reset ((inHardReset_iff s).mpr h) es, fun p hf hlow hread => ?_⟩
  · exact if_neg (by simp [hhigh])
  · intro ended
    refine ⟨fun b bits hf => ?_, fun hno => ?_⟩
    · rw [portEdge_selRise hlow, countAbort_of_bits hf]
    · rw [portEdge_selRise hlow, countAbort_of_no_bits hno]
  · exact if_neg (by simp [hhigh])
  · rw [portEdge_sckRise hlow, sampleBit_incomplete hf hr]
  · rw [portEdge_sckRise hlow, sampleBit_sending hf]
  · rw [portEdge_sckFall hhigh, shiftOut_receiving hf]
  · rw [portEdge_sckFall hhigh, shiftOut_cons hf]
  · refine ⟨fill.getLsbD 7, (byteBits fill).tail, rfl, ?_⟩
    rw [portEdge_sckFall hhigh, shiftOut_nil hf]
  · have hup := inHardReset_eq_false hpower hboard
    have hbegun := portEdges_begin (p := s.port) hl (reception_take_frameBits (params_length hf) hn)
    rw [takeEdges, if_neg (by simp [hup]), hbegun]
    exact exec_of_begun hf hup hl (List.take_prefix _ _)
  · rw [portEdges_cons _ _ _ rfl, portEdges_cons _ _ _ rfl, portEdge_selRise hlow]
    simp [portEdge, openFrame, hread, hlow]
end

section
/-! PROOFS. O45: every whole frame is answered, with its fixed number of response bytes. -/

namespace Sys2Proof.Machine

set_option Elab.async false

/-! ## The number of response bytes (12.3) -/

theorem compareBytes_length (c : Option Compare) : (compareBytes c).length = 12 := by cases c <;> rfl

theorem ruleDefBytes_length {d : RuleDef} (h : d.pattern.length ≤ 8) : (ruleDefBytes d).length = 51 := by
  simp only [ruleDefBytes, List.length_append, List.length_cons, List.length_nil, be32_length, flatMap_termBytes_length,
    List.length_replicate, compareBytes_length]
  omega

theorem snapshotBytes_length (x : Option Snapshot) : (snapshotBytes x).length = 63 := by
  cases x with
  | none => rfl
  | some x =>
    simp only [snapshotBytes, recordMiddle, List.length_append, List.length_cons, List.length_nil, be32_length, be16_length, padTo_length]

theorem seqStatusBytes_length (q : SeqState) : (seqStatusBytes q).length = 5 := by cases q <;> rfl

/-- A reply with result OK carries the command's fixed number of response bytes. -/
def FullReply (cmd : MgmtCommand) (r : Reply) : Prop := r.result = .ok → r.response.length = responseCount cmd

theorem fullReply_refused {cmd : MgmtCommand} {r : ResultCode} {s : State} (h : r ≠ .ok) : FullReply cmd (replyWith r s) :=
  fun hok => (h hok).elim

theorem fullReply_empty {cmd : MgmtCommand} {r : ResultCode} {s : State} (h : responseCount cmd = 0) : FullReply cmd (replyWith r s) :=
  fun _ => h.symm

theorem fullReply_ite {P : Prop} [Decidable P] {cmd : MgmtCommand} {a b : Reply} (ha : P → FullReply cmd a)
    (hb : ¬ P → FullReply cmd b) : FullReply cmd (if P then a else b) := by
  split
  next h => exact ha h
  next h => exact hb h

theorem fullReply_setMode (code : Byte) (s : State) : FullReply .setMode (setModeReply code s) := by
  unfold setModeReply
  split
  · exact fullReply_empty rfl
  · split <;> exact fullReply_empty rfl

theorem fullReply_readSource (i clear : Byte) (s : State) : FullReply .readSource (readSourceReply i clear s) := by
  unfold readSourceReply
  split
  · exact fullReply_refused nofun
  · exact fullReply_ite (fun _ => fullReply_refused nofun) fun _ _ => rfl

theorem fullReply_readRule {s : State} (hs : RulesSound s) (i : Byte) : FullReply .readRule (readRuleReply i s) := by
  unfold readRuleReply
  refine fullReply_ite (fun _ => fullReply_refused nofun) fun hi => fullReply_ite (fun _ => fullReply_refused nofun) fun hstate _ => ?_
  have hloaded := hs.loaded i.toNat (by omega) hstate
  simp only [ruleBytes, List.length_append, List.length_cons, List.length_nil, ruleDefBytes_length hloaded.terms, responseCount]

theorem fullReply_takeEvent (s : State) : FullReply .takeEvent (takeEventReply s) := by
  unfold takeEventReply
  split
  · exact fullReply_refused nofun
  · exact fun _ => rfl

/-- The blocks whose commands have no response bytes send none, whatever they answer. -/
theorem response_of_no_bytes {c : Instr} {cmd : MgmtCommand} {params : List Byte} {tail : FrameTail}
    (hf : frameOf c = some (cmd, params, tail)) (h : responseCount cmd = 0) (s : State) : FullReply cmd (replyOf c s) := by
  have empty : ∀ {r : ResultCode} {u : State}, FullReply cmd (replyWith r u) := fullReply_empty h
  have ite : ∀ {P : Prop} [Decidable P] {a b : Reply}, FullReply cmd a → FullReply cmd b → FullReply cmd (if P then a else b) :=
    fun ha hb => fullReply_ite (fun _ => ha) fun _ => hb
  cases c with
  | setMode code t => cases hf; exact fullReply_setMode code s
  | lockGuards t => exact ite empty empty
  | loadSource i src cls flags t => exact ite empty (ite empty (ite empty empty))
  | clearSource i t => exact ite empty (ite empty empty)
  | loadRule p t =>
    simp only [replyOf, loadRuleReply]
    split
    · exact empty
    · exact ite empty (ite empty (ite empty (ite empty empty)))
  | enableRule i t =>
    refine ite empty ?_
    split <;> exact empty
  | disableRule i t =>
    refine ite empty ?_
    split
    · exact empty
    · exact empty
    · exact ite empty empty
  | clearRule i t =>
    refine ite empty ?_
    split
    · exact empty
    · exact empty
    · exact ite empty empty
  | setRing p t =>
    simp only [replyOf, setRingReply]
    split
    · exact empty
    · exact ite empty (ite empty empty)
  | setTimers rt hl ms t => exact ite empty empty
  | loadStage i m n w x t =>
    simp only [replyOf, loadStageReply]
    split
    · exact empty
    · exact ite empty (ite empty empty)
  | setSequencer n m k a t =>
    simp only [replyOf, setSequencerReply]
    split
    · exact empty
    · exact ite empty empty
  | seqStart t => exact ite empty (ite empty empty)
  | setEventEnable l0 l1 l2 l3 ge t =>
    simp only [replyOf, setEventEnableReply]
    split <;> exact empty
  | setFill | seqStop | clearSnapshot => exact empty
  | _ => cases hf <;> cases h

theorem replyOf_fullReply {c : Instr} {cmd : MgmtCommand} {params : List Byte} {tail : FrameTail}
    (hf : frameOf c = some (cmd, params, tail)) {s : State} (hs : RulesSound s) : FullReply cmd (replyOf c s) := by
  by_cases hzero : responseCount cmd = 0
  · exact response_of_no_bytes hf hzero s
  cases c with
  | readSource i clear t => cases hf; exact fullReply_readSource i clear s
  | readRule i t => cases hf; exact fullReply_readRule hs i
  | readCounters i t => cases hf; exact fullReply_ite (fun _ => fullReply_refused nofun) fun _ _ => rfl
  | seqStatus t => cases hf; exact fun _ => seqStatusBytes_length _
  | readSnapshot t => cases hf; exact fun _ => snapshotBytes_length _
  | takeEvent t => cases hf; exact fullReply_takeEvent s
  | endEvent t => cases hf; exact fullReply_ite (fun _ => fullReply_refused nofun) fun _ _ => rfl
  | status | readGlobals | ringStatus => cases hf; exact fun _ => rfl
  | _ => cases hf <;> exact absurd rfl hzero

/-! ## What is read -/

/-- The response bytes that a reply is sent with. -/
def sentResponse (cmd : MgmtCommand) (r : Reply) : List Byte :=
  if r.result = .ok then r.response else List.replicate (responseCount cmd) 0x00

theorem sentResponse_length {cmd : MgmtCommand} {r : Reply} (h : FullReply cmd r) : (sentResponse cmd r).length = responseCount cmd := by
  unfold sentResponse
  split
  next hok => exact h hok
  · exact List.length_replicate

theorem sentResponse_zero {cmd : MgmtCommand} {r : Reply} (h : r.result ≠ .ok) : ∀ b ∈ sentResponse cmd r, b = 0x00 := by
  rw [sentResponse, if_neg h]
  exact fun b hb => List.eq_of_mem_replicate hb

theorem bytesBits_replicate_ff (n : Nat) : bytesBits (List.replicate n 0xFF) = List.replicate (8 * n) true := by
  induction n with
  | zero => rfl
  | succ n ih =>
    rw [List.replicate_succ, bytesBits_cons, ih, Nat.mul_succ, Nat.add_comm, ← List.replicate_append_replicate]
    rfl

/-- From the end of the answer on the host reads 1. -/
theorem driven_ff (out : List Bool) (n : Nat) : driven out 0xFF n = (out ++ List.replicate n true).take n := by
  rw [driven_eq (Nat.le_refl n), bytesBits_replicate_ff, List.take_append, List.take_append, List.take_replicate, List.take_replicate]
  congr 2
  omega

/-- The answer of a frame read until SEL_n rises. -/
theorem answer_read (cmd : MgmtCommand) (params : List Byte) (check : Byte) (sdi : List Bool) (r : Reply) {s : State}
    (hlink : r.state.port.link = s.port.link) (hsdo : r.state.port.sdo = s.port.sdo) :
    (answer cmd params r ⟨check, clockOut sdi ++ [.selRise]⟩).port.link =
      { selLow := false, sckHigh := true, frame := .absent, sdo := none, read := [] } ∧
    (answer cmd params r ⟨check, clockOut sdi ++ [.selRise]⟩).port.sdo = recordedFrames s.port ++
      [List.replicate (8 * (1 + params.length + 1)) false ++
        (bytesBits ([0x00, resultByte r.result] ++ sentResponse cmd r ++ [crc8 (resultByte r.result :: sentResponse cmd r)]) ++
          List.replicate sdi.length true).take sdi.length] := by
  have hrecorded : recordedFrames r.state.port = recordedFrames s.port := by rw [recordedFrames, hlink, hsdo, recordedFrames]
  have hne : List.replicate (8 * (1 + params.length + 1)) false ≠ [] := by
    rw [Nat.mul_add]
    exact List.cons_ne_nil _ _
  have hsending : (startSending (answerBytes cmd r.result r.response) 0xFF (received (frameBits cmd params check) r.state.port)).link =
      answering (bytesBits (answerBytes cmd r.result r.response)) 0xFF (some false) (List.replicate (8 * (1 + params.length + 1)) false) := by
    rw [← frameBits_length cmd params check]
    rfl
  have hrec : (startSending (answerBytes cmd r.result r.response) 0xFF (received (frameBits cmd params check) r.state.port)).sdo =
      recordedFrames s.port := (received_sdo r.state.port (frameBits cmd params check)).trans hrecorded
  have hport := portEdges_clockOut_selRise sdi hsending hne
  rw [hrec, driven_ff] at hport
  exact ⟨congrArg MgmtPort.link hport, congrArg MgmtPort.sdo hport⟩

end Sys2Proof.Machine

open Sys2Proof Sys2Proof.Machine

/-- Settles O45. -/
theorem everyFrameIsAnswered : Obligations.EveryFrameIsAnswered := by
  intro c cmd params check sdi s hf hready hs
  have hlen := params_length hf
  have answered : ∀ r : Reply, exec c s = .next (answer cmd params r ⟨check, clockOut sdi ++ [.selRise]⟩) → FullReply cmd r →
      r.state.port.link = s.port.link → r.state.port.sdo = s.port.sdo → Answers (exec c s) fun t =>
        ∃ (r : ResultCode) (response : List Byte), response.length = responseCount cmd ∧ (r ≠ .ok → ∀ b ∈ response, b = 0x00) ∧
          t.port.link = { selLow := false, sckHigh := true, frame := .absent, sdo := none, read := [] } ∧
          t.port.sdo = recordedFrames s.port ++ [List.replicate (8 * (1 + paramCount cmd + 1)) false ++
            (bytesBits ([0x00, resultByte r] ++ response ++ [crc8 (resultByte r :: response)]) ++
              List.replicate sdi.length true).take sdi.length] := by
    intro r hexec hfull hlink hsdo
    obtain ⟨hl, hr⟩ := answer_read cmd params check sdi r hlink hsdo
    rw [hlen] at hr
    exact ⟨_, hexec, r.result, sentResponse cmd r, sentResponse_length hfull, sentResponse_zero, hl, hr⟩
  refine ⟨hlen, ?_⟩
  rw [portReady_eq_takesFrame] at hready
  by_cases hcheck : checkMatches cmd params ⟨check, clockOut sdi ++ [.selRise]⟩ = true
  · obtain ⟨hlink, hsdo⟩ := replyOf_wires hf s
    exact answered _ ((exec_eq_runFrame hf s).trans (congrArg _ (runFrame_taken _ _ _ _ _ hready hcheck)))
      (replyOf_fullReply hf hs) hlink hsdo
  · exact answered (replyWith .badCheck s)
      ((exec_eq_runFrame hf s).trans (congrArg _ (runFrame_badCheck _ _ _ _ _ hready (Bool.eq_false_iff.mpr hcheck))))
      (fullReply_refused nofun) rfl rfl
end

section
/-! PROOFS. O21: the held items that freed slots release. -/

namespace Sys2Proof.Machine

set_option Elab.async false

/-! ## One record placed -/

/-- A record with a slot enters the Capture Queue at once (R107, R134). -/
def RoomNow (v : State) : Prop := v.ring.queue.length < 4 ∧ waitingRecords v = 0

section
variable {v : State} {h k : Hold} {next : AfterCapture} {p : ResponsePacket}

theorem placeRequest_room (hroom : RoomNow v) (r : Record) (next : AfterCapture) :
    placeRequest r next v = continueRequest next { v with ring := queued r v.ring } := (placeRequest_eq v r next).trans (if_pos hroom)

theorem placeRequest_noRoom (hroom : ¬ RoomNow v) (r : Record) (next : AfterCapture) :
    placeRequest r next v = { v with near := { v.near with head := .waitRoom r next } } := (placeRequest_eq v r next).trans (if_neg hroom)

theorem placeResponse_room (hroom : RoomNow v) (r : Record) (p : ResponsePacket) :
    placeResponse r p v = { v with ring := queued r v.ring, far := { v.far with head := .ready p } } :=
  (placeResponse_eq v r p).trans (if_pos hroom)

theorem placeResponse_noRoom (hroom : ¬ RoomNow v) (r : Record) (p : ResponsePacket) :
    placeResponse r p v = { v with far := { v.far with head := .waitRoom r p } } := (placeResponse_eq v r p).trans (if_neg hroom)

/-- A request that goes on does not wait for room. -/
theorem waitingRecords_continueRequest (hh : v.near.head = .held h next) (g : RingController) :
    waitingRecords (continueRequest next { v with ring := g }) = waitingRecords v := by
  cases next <;> simp [waitingRecords, continueRequest, count, headWaitsForRoom, hh]

theorem waitingRecords_waitRequest (hh : v.near.head = .held h next) (r : Record) :
    waitingRecords { v with near := { v.near with head := .waitRoom r next } } = waitingRecords v + 1 := by
  simp only [waitingRecords, headWaitsForRoom, hh, Bool.toNat_true, Bool.toNat_false]
  omega

theorem waitingRecords_readyResponse (hk : v.far.head = .held k p) (g : RingController) :
    waitingRecords { v with ring := g, far := { v.far with head := .ready p } } = waitingRecords v := by
  simp only [waitingRecords, responseWaitsForRoom, hk]

theorem waitingRecords_waitResponse (hk : v.far.head = .held k p) (r : Record) :
    waitingRecords { v with far := { v.far with head := .waitRoom r p } } = waitingRecords v + 1 := by
  simp only [waitingRecords, responseWaitsForRoom, hk, Bool.toNat_true, Bool.toNat_false]
  omega

theorem queued_length (r : Record) (g : RingController) : (queued r g).queue.length = g.queue.length + 1 := by simp [queued]

/-! ## The offer -/

theorem releaseRequest_of_held (hh : v.near.head = .held h next) (hfree : slotFree v = true) :
    releaseRequest v = placeRequest (heldRecord h v.time) next v := by
  rw [releaseRequest, hh]
  exact if_pos hfree

theorem releaseResponse_of_held (hk : v.far.head = .held k p) (hfree : slotFree v = true) :
    releaseResponse v = placeResponse (heldRecord k v.time) p v := by
  rw [releaseResponse, hk]
  exact if_pos hfree

theorem offerFreedSlots_request (hh : v.near.head = .held h next) (hnone : holdOf .response v = none) (hfree : slotFree v = true) :
    offerFreedSlots v = placeRequest (heldRecord h v.time) next v := by
  have hkept : holdOf .response (releaseRequest v) = none := by rw [holdOf, releaseRequest_far]; exact hnone
  rw [offerFreedSlots, releaseResponse_of_holdOf hnone, releaseResponse_of_holdOf hkept, ite_self, releaseRequest_of_held hh hfree]

theorem offerFreedSlots_response (hk : v.far.head = .held k p) (hnone : holdOf .request v = none) (hfree : slotFree v = true) :
    offerFreedSlots v = placeResponse (heldRecord k v.time) p v := by
  have hkept : holdOf .request (releaseResponse v) = none := by rw [holdOf, releaseResponse_near]; exact hnone
  rw [offerFreedSlots, releaseRequest_of_holdOf hnone, releaseRequest_of_holdOf hkept, ite_self, releaseResponse_of_held hk hfree]

theorem responseHeldFirst_eq (hh : v.near.head = .held h next) (hk : v.far.head = .held k p) :
    responseHeldFirst v = createdBefore v.ring.seq k.record.seq h.record.seq := by
  rw [responseHeldFirst, hh, hk]

/-- Both are held and the request's record was created first: the request is offered a slot, and then the response. -/
theorem offerFreedSlots_requestFirst (hh : v.near.head = .held h next) (hk : v.far.head = .held k p)
    (hfirst : createdBefore v.ring.seq k.record.seq h.record.seq = false) (hfree : slotFree v = true) :
    offerFreedSlots v = releaseResponse (placeRequest (heldRecord h v.time) next v) := by
  rw [offerFreedSlots, responseHeldFirst_eq hh hk, hfirst, if_neg Bool.false_ne_true, releaseRequest_of_held hh hfree]

theorem offerFreedSlots_responseFirst (hh : v.near.head = .held h next) (hk : v.far.head = .held k p)
    (hfirst : createdBefore v.ring.seq k.record.seq h.record.seq = true) (hfree : slotFree v = true) :
    offerFreedSlots v = releaseRequest (placeResponse (heldRecord k v.time) p v) := by
  rw [offerFreedSlots, responseHeldFirst_eq hh hk, hfirst, if_pos rfl, releaseResponse_of_held hk hfree]

theorem slotFree_placeRequest (hh : v.near.head = .held h next) (r : Record) :
    slotFree (placeRequest r next v) = true ↔ reserved v + 1 < v.ring.config.slots := by
  rw [slotFree_iff_reserved, reserved_placeRequest _ _ _ (by rw [hh]; rfl), placeRequest_ring_config]

theorem slotFree_placeResponse (hk : v.far.head = .held k p) (r : Record) :
    slotFree (placeResponse r p v) = true ↔ reserved v + 1 < v.ring.config.slots := by
  rw [slotFree_iff_reserved, reserved_placeResponse _ _ _ (by rw [hk]; rfl), placeResponse_ring_config]

/-- One slot is free: the one created first goes on, and the other stays held. -/
theorem offerFreedSlots_one (hh : v.near.head = .held h next) (hk : v.far.head = .held k p) (hone : reserved v + 1 = v.ring.config.slots) :
    (createdBefore v.ring.seq k.record.seq h.record.seq = false → offerFreedSlots v = placeRequest (heldRecord h v.time) next v) ∧
    (createdBefore v.ring.seq k.record.seq h.record.seq = true → offerFreedSlots v = placeResponse (heldRecord k v.time) p v) := by
  have hfree : slotFree v = true := (slotFree_iff_reserved v).mpr (by omega)
  refine ⟨fun hfirst => ?_, fun hfirst => ?_⟩
  · have hfull : slotFree (placeRequest (heldRecord h v.time) next v) = false :=
      Bool.eq_false_iff.mpr fun hf => by have := (slotFree_placeRequest hh _).mp hf; omega
    rw [offerFreedSlots_requestFirst hh hk hfirst hfree, releaseResponse_of_noSlot hfull]
  · have hfull : slotFree (placeResponse (heldRecord k v.time) p v) = false :=
      Bool.eq_false_iff.mpr fun hf => by have := (slotFree_placeResponse hk _).mp hf; omega
    rw [offerFreedSlots_responseFirst hh hk hfirst hfree, releaseRequest_of_noSlot hfull]

/-- Two slots are free: both go on, the one created first before the other. -/
theorem offerFreedSlots_two (hh : v.near.head = .held h next) (hk : v.far.head = .held k p) (htwo : reserved v + 2 ≤ v.ring.config.slots) :
    (createdBefore v.ring.seq k.record.seq h.record.seq = false →
      offerFreedSlots v = placeResponse (heldRecord k v.time) p (placeRequest (heldRecord h v.time) next v)) ∧
    (createdBefore v.ring.seq k.record.seq h.record.seq = true →
      offerFreedSlots v = placeRequest (heldRecord h v.time) next (placeResponse (heldRecord k v.time) p v)) := by
  have hfree : slotFree v = true := (slotFree_iff_reserved v).mpr (by omega)
  refine ⟨fun hfirst => ?_, fun hfirst => ?_⟩
  · have hk' : (placeRequest (heldRecord h v.time) next v).far.head = .held k p := by rw [placeRequest_far, hk]
    rw [offerFreedSlots_requestFirst hh hk hfirst hfree,
      releaseResponse_of_held hk' ((slotFree_placeRequest hh _).mpr (by omega)), placeRequest_time]
  · have hh' : (placeResponse (heldRecord k v.time) p v).near.head = .held h next := by rw [placeResponse_near, hh]
    rw [offerFreedSlots_responseFirst hh hk hfirst hfree,
      releaseRequest_of_held hh' ((slotFree_placeResponse hk _).mpr (by omega)), placeResponse_time]

/-! ## Both placed -/

theorem placeBoth_noRoom (hh : v.near.head = .held h next) (hk : v.far.head = .held k p) (hroom : ¬ RoomNow v) (a b : Record) :
    placeResponse b p (placeRequest a next v) =
      { v with near := { v.near with head := .waitRoom a next }, far := { v.far with head := .waitRoom b p } } ∧
    placeRequest a next (placeResponse b p v) =
      { v with near := { v.near with head := .waitRoom a next }, far := { v.far with head := .waitRoom b p } } := by
  refine ⟨?_, ?_⟩
  · rw [placeRequest_noRoom hroom]
    exact placeResponse_noRoom (fun hr => by have := hr.2; rw [waitingRecords_waitRequest hh] at this; omega) b p
  · rw [placeResponse_noRoom hroom]
    exact placeRequest_noRoom (fun hr => by have := hr.2; rw [waitingRecords_waitResponse hk] at this; omega) a next

/-- Whether the response finds room behind the request. -/
theorem roomNow_continueRequest (hh : v.near.head = .held h next) (r : Record) :
    RoomNow (continueRequest next { v with ring := queued r v.ring }) ↔ v.ring.queue.length < 3 ∧ waitingRecords v = 0 := by
  rw [RoomNow, waitingRecords_continueRequest hh, continueRequest_ring, queued_length]
  omega

theorem roomNow_readyResponse (hk : v.far.head = .held k p) (r : Record) :
    RoomNow { v with ring := queued r v.ring, far := { v.far with head := .ready p } } ↔ v.ring.queue.length < 3 ∧ waitingRecords v = 0 := by
  rw [RoomNow, waitingRecords_readyResponse hk, queued_length]
  omega

theorem placeResponse_placeRequest (hh : v.near.head = .held h next) (hroom : RoomNow v) (a b : Record) :
    ((v.ring.queue.length < 3 ∧ waitingRecords v = 0) → placeResponse b p (placeRequest a next v) =
      continueRequest next { v with ring := queued b (queued a v.ring), far := { v.far with head := .ready p } }) ∧
    (¬ (v.ring.queue.length < 3 ∧ waitingRecords v = 0) → placeResponse b p (placeRequest a next v) =
      continueRequest next { v with ring := queued a v.ring, far := { v.far with head := .waitRoom b p } }) := by
  rw [placeRequest_room hroom]
  refine ⟨fun htwo => ?_, fun hnot => ?_⟩
  · rw [placeResponse_room ((roomNow_continueRequest hh a).mpr htwo)]
    cases next <;> rfl
  · rw [placeResponse_noRoom fun hr => hnot ((roomNow_continueRequest hh a).mp hr)]
    cases next <;> rfl

theorem placeRequest_placeResponse (hk : v.far.head = .held k p) (hroom : RoomNow v) (a b : Record) :
    ((v.ring.queue.length < 3 ∧ waitingRecords v = 0) → placeRequest a next (placeResponse b p v) =
      continueRequest next { v with ring := queued a (queued b v.ring), far := { v.far with head := .ready p } }) ∧
    (¬ (v.ring.queue.length < 3 ∧ waitingRecords v = 0) → placeRequest a next (placeResponse b p v) =
      { v with
        ring := queued b v.ring
        near := { v.near with head := .waitRoom a next }
        far := { v.far with head := .ready p } }) := by
  rw [placeResponse_room hroom]
  exact ⟨fun htwo => placeRequest_room ((roomNow_readyResponse hk b).mpr htwo) a next,
    fun hnot => placeRequest_noRoom (fun hr => hnot ((roomNow_readyResponse hk b).mp hr)) a next⟩

end

end Sys2Proof.Machine

open Sys2Proof Sys2Proof.Machine

/-- Settles O21. -/
theorem heldReleasedWithRecord : Obligations.HeldReleasedWithRecord := by
  intro c' s u open' released
  have hoffer : acceptUpdate c' s = offerFreedSlots u := rfl
  refine ⟨fun p hup hroom hvalid hwf hkind hfrom hto hc hbetween => ?_, fun h next hh hnone hlt => ?_, fun k p hk hnone hlt => ?_,
    fun h next k p hh hk hone => ?_, ?_, fun hfull => ?_⟩
  · rw [exec_requestArrival_of_covers hup hroom ⟨hvalid, hwf, hkind, by omega, by omega⟩, candidateOf_eq_some ⟨hfrom, hto⟩, ← hc,
      ← bufferRequest_of_wellFormed hwf]
    exact congrArg Host.Outcome.next (if_pos hbetween)
  · have hplaced : acceptUpdate c' s = placeRequest (released h) next u :=
      offerFreedSlots_request (v := u) hh hnone ((slotFree_iff_reserved u).mpr hlt)
    exact ⟨fun ho => hplaced.trans (placeRequest_room (v := u) ho _ _), fun ho => hplaced.trans (placeRequest_noRoom (v := u) ho _ _)⟩
  · have hplaced : acceptUpdate c' s = placeResponse (released k) p u :=
      offerFreedSlots_response (v := u) hk hnone ((slotFree_iff_reserved u).mpr hlt)
    exact ⟨fun ho => hplaced.trans (placeResponse_room (v := u) ho _ _), fun ho => hplaced.trans (placeResponse_noRoom (v := u) ho _ _)⟩
  · obtain ⟨hrequest, hresponse⟩ := offerFreedSlots_one (v := u) hh hk hone
    exact ⟨fun hfirst => ⟨fun ho => (hrequest hfirst).trans (placeRequest_room (v := u) ho _ _),
        fun ho => (hrequest hfirst).trans (placeRequest_noRoom (v := u) ho _ _)⟩,
      fun hfirst => ⟨fun ho => (hresponse hfirst).trans (placeResponse_room (v := u) ho _ _),
        fun ho => (hresponse hfirst).trans (placeResponse_noRoom (v := u) ho _ _)⟩⟩
  · intro h next k p hh hk htwo openTwo
    obtain ⟨hrequest, hresponse⟩ := offerFreedSlots_two (v := u) hh hk htwo
    have hopen : openTwo → open' := fun ht => ⟨by have := ht.1; omega, ht.2⟩
    refine ⟨fun ho => ?_, fun hfirst => ⟨fun ht => ?_, fun ho ht => ?_⟩, fun hfirst => ⟨fun ht => ?_, fun ho ht => ?_⟩⟩
    · obtain ⟨hwait, hwait'⟩ := placeBoth_noRoom (v := u) hh hk ho (released h) (released k)
      cases hfirst : createdBefore u.ring.seq k.record.seq h.record.seq with
      | false => exact (hrequest hfirst).trans hwait
      | true => exact (hresponse hfirst).trans hwait'
    · exact (hrequest hfirst).trans ((placeResponse_placeRequest (v := u) hh (hopen ht) _ _).1 ht)
    · exact (hrequest hfirst).trans ((placeResponse_placeRequest (v := u) hh ho _ _).2 ht)
    · exact (hresponse hfirst).trans ((placeRequest_placeResponse (v := u) hk (hopen ht) _ _).1 ht)
    · exact (hresponse hfirst).trans ((placeRequest_placeResponse (v := u) hk ho _ _).2 ht)
  · exact offerFreedSlots_of_noSlot (s := u) (Bool.eq_false_iff.mpr fun hf => Nat.not_le.mpr ((slotFree_iff_reserved u).mp hf) hfull)
end
